-- ==== Sys2Proof/Word.lean ====
section
/-! DEFINITION. The word types of the pattern bytecode (30_encoding.md R70: every instruction is one 16-bit word). -/

namespace Sys2Proof

/-- A bytecode word, the unit of pattern memory (20_memory.md R51). -/
abbrev Word := BitVec 16

/-- An 8-bit immediate or field (30_encoding.md R74, R76). -/
abbrev Byte := BitVec 8

/-- A 12-bit time immediate (30_encoding.md R77). -/
abbrev Imm12 := BitVec 12

/-- A 3-bit duration code (30_encoding.md R72). -/
abbrev DurCode := BitVec 3

end Sys2Proof
end

