-- ==== Sys2Proof/Syntax.lean ====
section
/-! DEFINITION. The instructions of the pattern bytecode: one constructor per row of spec/opcode_table.json. -/

namespace Sys2Proof

/-- A decoded bytecode word. Operands are the unsigned fields of 30_encoding.md R72, R74, R76 and R77 (R80: no sign,
no scaling at decode). -/
inductive Instr where
  /-- `NOTE n, d, p` (R114): note-on; `n` is 1..127. -/
  | note (d p : DurCode) (n : BitVec 7)
  /-- `REST d, p` (R115): note-off. -/
  | rest (d p : DurCode)
  /-- A reserved note-class word (R73, R84): bit 15 clear, bit 14 (`b14`) or bit 10 (`b10`) set. -/
  | rsvNote (b14 : BitVec 1) (d : DurCode) (b10 : BitVec 1) (p : DurCode) (n : BitVec 7)
  /-- `EFFECT e, a` with `e` 0 or 7..15 (R127). -/
  | effectInvalid (e : BitVec 4) (a : Byte)
  /-- `PAUSE t` (R121). -/
  | pause (t : Byte)
  /-- `JUMP p` (R122). -/
  | jump (p : Byte)
  /-- `INSTR k` (R123). -/
  | instr (k : Byte)
  /-- `ALEVEL l` (R124). -/
  | alevel (l : Byte)
  /-- `SLEVEL l` (R125). -/
  | slevel (l : Byte)
  /-- `SPEED s` (R126). -/
  | speed (m : Byte)
  /-- `TICK i, x` (R141). -/
  | tick (i : BitVec 4) (x : Byte)
  /-- `ATTACK k` (R142). -/
  | attack (k : Imm12)
  /-- `DECAY k` (R143). -/
  | decay (k : Imm12)
  /-- `RELEASE k` (R144). -/
  | release (k : Imm12)
  /-- A reserved word `0xDxxx` (R78, R84). -/
  | rsvD (x : Imm12)
  /-- A reserved word `0xExxx` (R78, R84). -/
  | rsvE (x : Imm12)
  /-- A reserved word `0xFxxx` (R78, R84). -/
  | rsvF (x : Imm12)
deriving DecidableEq, Repr

end Sys2Proof
end

