-- ==== Sys2Proof/WellFormed.lean ====
section
/-! DEFINITION. Which terms of Instr are instructions: the operand constraints of 30_encoding.md R82 and R83. -/

namespace Sys2Proof

/-- The constraint column of 30_encoding.md R82. Every other operand range is given by the field's width. -/
def Instr.wf : Instr → Bool
  | .note _ _ n => n != 0
  | .rest _ _ => true
  | .rsvNote b14 _ b10 _ _ => b14 == 1 || b10 == 1
  | .effectInvalid e _ => e == 0 || 7 ≤ e.toNat
  | .pause _ => true
  | .jump _ => true
  | .instr _ => true
  | .alevel _ => true
  | .slevel _ => true
  | .speed _ => true
  | .tick _ _ => true
  | .attack _ => true
  | .decay _ => true
  | .release _ => true
  | .rsvD _ => true
  | .rsvE _ => true
  | .rsvF _ => true

/-- The reserved forms of 30_encoding.md R84. -/
def Instr.isReserved : Instr → Bool
  | .rsvNote _ _ _ _ _ => true
  | .rsvD _ => true
  | .rsvE _ => true
  | .rsvF _ => true
  | .note _ _ _ => false
  | .rest _ _ => false
  | .effectInvalid _ _ => false
  | .pause _ => false
  | .jump _ => false
  | .instr _ => false
  | .alevel _ => false
  | .slevel _ => false
  | .speed _ => false
  | .tick _ _ => false
  | .attack _ => false
  | .decay _ => false
  | .release _ => false

end Sys2Proof
end

