-- ==== Sys2Proof/Decode.lean ====
section
/-! DEFINITION. The decoder (30_encoding.md R79), total on all 65536 words, and the encoder (R81) written from the
same field layouts (R72, R74, R76, R77). -/

namespace Sys2Proof

/-- `w[lo+len-1 : lo]`, the unsigned bit slice of 00_scope.md R14. -/
def bits (w : Word) (lo len : Nat) : BitVec len := w.extractLsb' lo len

/-- The effect word `EFFECT(e, a)`, by effect number (30_encoding.md R75, R79). -/
def decodeEffect (e : BitVec 4) (a : Byte) : Instr :=
  if e = 1 then .pause a
  else if e = 2 then .jump a
  else if e = 3 then .instr a
  else if e = 4 then .alevel a
  else if e = 5 then .slevel a
  else if e = 6 then .speed a
  else .effectInvalid e a

/-- A word with bit 15 clear (30_encoding.md R71, R72, R73): a note, a rest, or reserved when bit 14 or bit 10 is
set. -/
def decodeNoteClass (w : Word) : Instr :=
  if bits w 14 1 = 0 ∧ bits w 10 1 = 0 then
    if bits w 0 7 = 0 then .rest (bits w 11 3) (bits w 7 3)
    else .note (bits w 11 3) (bits w 7 3) (bits w 0 7)
  else .rsvNote (bits w 14 1) (bits w 11 3) (bits w 10 1) (bits w 7 3) (bits w 0 7)

/-- `decode(w)` of 30_encoding.md R79. The effect number is `w[14:8]`, whose top three bits the class test makes 0,
so it is `w[11:8]` (90_conflicts.md C3). No word is rejected: a reserved word has a constructor of its own. -/
def decode (w : Word) : Instr :=
  if bits w 12 4 = 0b1000 then decodeEffect (bits w 8 4) (bits w 0 8)
  else if bits w 12 4 = 0b1001 then .tick (bits w 8 4) (bits w 0 8)
  else if bits w 12 4 = 0b1010 then .attack (bits w 0 12)
  else if bits w 12 4 = 0b1011 then .decay (bits w 0 12)
  else if bits w 12 4 = 0b1100 then .release (bits w 0 12)
  else if bits w 12 4 = 0b1101 then .rsvD (bits w 0 12)
  else if bits w 12 4 = 0b1110 then .rsvE (bits w 0 12)
  else if bits w 12 4 = 0b1111 then .rsvF (bits w 0 12)
  else decodeNoteClass w

/-- A field at bit `lo` of a word: zero-extended and shifted (00_scope.md R15 `zext`, R14). -/
def field {n : Nat} (x : BitVec n) (lo : Nat) : Word := x.setWidth 16 <<< lo

/-- `encode(i)` of 30_encoding.md R81; a reserved form is its raw word. -/
def encode : Instr → Word
  | .note d p n => field d 11 ||| field p 7 ||| field n 0
  | .rest d p => field d 11 ||| field p 7
  | .rsvNote b14 d b10 p n => field b14 14 ||| field d 11 ||| field b10 10 ||| field p 7 ||| field n 0
  | .effectInvalid e a => 0x8000 ||| field e 8 ||| field a 0
  | .pause t => 0x8100 ||| field t 0
  | .jump p => 0x8200 ||| field p 0
  | .instr k => 0x8300 ||| field k 0
  | .alevel l => 0x8400 ||| field l 0
  | .slevel l => 0x8500 ||| field l 0
  | .speed m => 0x8600 ||| field m 0
  | .tick i x => 0x9000 ||| field i 8 ||| field x 0
  | .attack k => 0xA000 ||| field k 0
  | .decay k => 0xB000 ||| field k 0
  | .release k => 0xC000 ||| field k 0
  | .rsvD x => 0xD000 ||| field x 0
  | .rsvE x => 0xE000 ||| field x 0
  | .rsvF x => 0xF000 ||| field x 0

/-- Whether a word is one of the reserved words of 30_encoding.md R84. -/
def isReservedWord (w : Word) : Bool := (decode w).isReserved

/-- Why a run of bits is no instruction: it is longer than the one word every instruction is (30_encoding.md
R70). -/
inductive DecodeReject where
  | longerThanOneWord (nbits : Nat)
deriving DecidableEq, Repr

/-- The word whose low `nbits` bits are those of `w`, the rest 0. -/
def tableWord (nbits w : Nat) : Word := BitVec.ofNat 16 (w % 2 ^ nbits)

/-- Decoding a run of `nbits` bits, rejecting by name what is longer than a word. -/
def decodeBits (nbits w : Nat) : Except DecodeReject Instr :=
  if nbits ≤ 16 then .ok (decode (tableWord nbits w)) else .error (.longerThanOneWord nbits)

/-- The host's entry to the decoder. -/
def decodeTableWord (nbits w : Nat) : Option Instr := (decodeBits nbits w).toOption

end Sys2Proof
end

