-- ==== Sys2Proof/Config.lean ====
section
/-! DEFINITION. The parameters of 00_scope.md R12 as plain data, and the configuration State.reset is built with.
A Config is a field of State (log 1): a statement about every state is a statement about every configuration. -/

namespace Sys2Proof

/-- `RESERVED_POLICY`: what a reserved word does (30_encoding.md R84). -/
inductive ReservedPolicy where
  | refuse
  | asNote
deriving DecidableEq, Repr

/-- One instrument: its sample list and its interpolation-capable flag (20_memory.md R53). -/
structure Instrument where
  shape  : List Int
  interp : Bool
deriving DecidableEq, Repr

/-- `MS_TO_SAMPLES`, as plain data (43_timing_words.md R140): the spec's default formula, or any total table on
0..4095. -/
inductive MsScale where
  | perMillisecond
  | table (samples : Vector Nat 4096)
deriving DecidableEq, Repr

/-- The parameters of 00_scope.md R12, except `SONG` and `START_PATTERN`, which `loadSong` replaces. -/
structure Config where
  /-- `SAMPLE_RATE`. -/
  sampleRate : Nat
  /-- `PHASE_BITS`. -/
  phaseBits : Nat
  /-- `NOTE_FREQ` on 1..127: entry `n - 1` is the frequency of note `n`. Total and below 2^16 by its type (R55). -/
  noteFreq : Vector (BitVec 16) 127
  /-- The instrument table; `N_INSTR` is its length. -/
  instruments : List Instrument
  /-- `DEFAULT_TICKS`. -/
  defaultTicks : Vector Byte 8
  /-- `INIT_SPEED`; a parameter, since a zero speed would make every countdown 0 (70_reset_and_hazards.md R232). -/
  initSpeed : Byte
  /-- `MS_TO_SAMPLES`. -/
  msScale : MsScale
  /-- `INTERP_ENABLE`. -/
  interpEnable : Bool
  /-- `SAMPLE_MIN`. -/
  sampleMin : Int
  /-- `SAMPLE_MAX`. -/
  sampleMax : Int
  /-- `OUT_BIAS`. -/
  outBias : Int
  /-- `OUT_MIN`. -/
  outMin : Int
  /-- `OUT_MAX`. -/
  outMax : Int
  /-- `RESERVED_POLICY`. -/
  reservedPolicy : ReservedPolicy
  /-- `RELEASE_SENTINEL_COMPAT`. -/
  releaseSentinelCompat : Bool
  /-- `LEVEL_CLAMP`. -/
  levelClamp : Bool
  /-- `LOADSONG_FULL_RESET`. -/
  loadSongFullReset : Bool
  /-- `NO_INSTR_ADVANCES`. -/
  noInstrAdvances : Bool
deriving DecidableEq, Repr

namespace Config

/-- `SAMPLE_RATE` less 1, OPEN (R12; N3): no value is assumed but that the rate is admitted: at least 1, and small
enough for 43_timing_words.md R140 under the default `MS_TO_SAMPLES`. DESIGN CHOICE, log 4, safe. -/
opaque openSampleRate : Fin 524416031

/-- `PHASE_BITS` less 1, OPEN (R12; N4). DESIGN CHOICE, log 4, safe. -/
opaque openPhaseBits : Nat

/-- `NOTE_FREQ` is OPEN (R12; N5). DESIGN CHOICE, log 4, safe. -/
opaque openNoteFreq : Vector (BitVec 16) 127

/-- `N_INSTR` is OPEN (R12; N6), at most 256 (20_memory.md R54 item 1). DESIGN CHOICE, log 4, safe. -/
opaque openInstrumentCount : Fin 257

/-- Instrument `k` is OPEN (R12; N6): its first sample, its further ones and its flag. The type is R54 items 2 and 3:
at least one sample, each in the default range `[-128, 127]`. DESIGN CHOICE, log 4, safe. -/
opaque openInstrument : Nat → BitVec 8 × List (BitVec 8) × Bool

/-- `DEFAULT_TICKS` is OPEN (R12; N10). DESIGN CHOICE, log 4, safe. -/
opaque openDefaultTicks : Vector Byte 8

/-- `INTERP_ENABLE` is OPEN (R12; N25). DESIGN CHOICE, log 4, safe. -/
opaque openInterpEnable : Bool

/-- `E.outSample` is unspecified after construction (10_state.md R43, R47; U13 "any value"): a free value.
DESIGN CHOICE, log 5, safe. -/
opaque openOutSample : Int

/-- The instrument whose samples are those of `x`, read as signed. -/
def instrumentOf (x : BitVec 8 × List (BitVec 8) × Bool) : Instrument where
  shape := (x.1 :: x.2.1).map BitVec.toInt
  interp := x.2.2

/-- The configuration `State.reset` is built with: every OPEN parameter a free value among those the spec admits,
every other one the spec's decided default (00_scope.md R12). It is admitted (20_memory.md R54;
70_reset_and_hazards.md R236 item 1), which `shipped_admitted` in Sys2Proof/Laws/Run.lean proves. -/
def shipped : Config where
  sampleRate := openSampleRate.val + 1
  phaseBits := openPhaseBits + 1
  noteFreq := openNoteFreq
  instruments := (List.range openInstrumentCount.val).map fun k => instrumentOf (openInstrument k)
  defaultTicks := openDefaultTicks
  initSpeed := 1
  msScale := .perMillisecond
  interpEnable := openInterpEnable
  sampleMin := -128
  sampleMax := 127
  outBias := 128
  outMin := 0
  outMax := 255
  reservedPolicy := .refuse
  releaseSentinelCompat := false
  levelClamp := true
  loadSongFullReset := true
  noInstrAdvances := true

end Config

end Sys2Proof
end

