-- ==== Sys2Proof/Machine/State.lean ====
section
/-! DEFINITION. The block's state (10_state.md), its stops, and its state after construction reset. -/

namespace Sys2Proof.Machine

/-- A voice's index (00_scope.md R11: exactly two voices). -/
inductive VoiceIdx where
  | v0
  | v1
deriving DecidableEq, Repr

/-- One voice (10_state.md R21). -/
structure Voice where
  /-- Target frequency (R22). -/
  freq : BitVec 16
  /-- Instrument selection, `none` or an index (R23). -/
  instr : Option Byte
  /-- Attack time in samples (R24). -/
  atkTime : BitVec 32
  /-- End of decay in samples from note-on (R25). -/
  decTime : BitVec 32
  /-- Release duration in samples (R26). -/
  relTime : BitVec 32
  /-- Attack peak level, percent (R27). -/
  atkLevel : Byte
  /-- Sustain level, percent (R28). -/
  susLevel : Byte
  /-- Phase accumulator, below `2^PHASE_BITS` (R29); a Nat because the width is a parameter. -/
  phase : Nat
  /-- Note age in samples, saturating (R30, R31). -/
  age : BitVec 32
  /-- Note released flag (R34). -/
  released : Bool
  /-- Release marker (R33). -/
  relMark : BitVec 32
  /-- Invocations until the next decode (R35). -/
  countdown : BitVec 32
  /-- Tick-duration table (R36). -/
  ticks : Vector Byte 8
  /-- Program counter: pattern index (R37). -/
  pat : Byte
  /-- Program counter: cursor, in words (R37). -/
  cur : BitVec 16
deriving DecidableEq, Repr

/-- The model faults of 60_exceptions.md R205. The step that raises one records it in `faultKind` and answers a next
state; a tick strobe on a state that holds one stops with it (46_tick_loop.md R196: the block has no further step).
All are safe: the block the source describes would go on in a way nobody states. -/
inductive Fault where
  /-- F1: raised by a sequencer step whose cursor is at or past the end of its pattern (R102). Safe. -/
  | cursorOverrun
  /-- F2: raised by a reserved word under `RESERVED_POLICY = Refuse` (R104). Safe. -/
  | reservedWord
  /-- F3: raised by a tick invocation before any `loadSong` (R186). Safe. -/
  | noSong
deriving DecidableEq, Repr

/-- What the model does not admit. -/
inductive Refusal where
  /-- An instruction whose arm has no meaning; no arm is left so. Safe. -/
  | notModelled (mnemonic : String)
  /-- Raised by a `loadSong` of a song that breaks 20_memory.md R52. Safe: the spec refuses it. -/
  | songNotWellFormed
  /-- Raised by a construction or a `loadSong` whose configuration breaks 00_scope.md R12, 20_memory.md R54 or
  43_timing_words.md R140. Safe: the spec refuses it. -/
  | configNotAdmitted
deriving DecidableEq, Repr

/-- The kinds of diagnostic report (60_exceptions.md R202). -/
inductive DiagKind where
  | invalidEffect
  | patternIndexRange
  | instrumentIndexRange
  | tickIndexRange
deriving DecidableEq, Repr

/-- One diagnostic record (60_exceptions.md R201). -/
structure DiagRecord where
  kind  : DiagKind
  voice : VoiceIdx
  word  : Word
  tick  : BitVec 32
deriving DecidableEq, Repr

/-- `START_PATTERN` (00_scope.md R12): one pattern index per voice. -/
structure StartPattern where
  p0 : Byte
  p1 : Byte
deriving DecidableEq, Repr

/-- Pattern memory (20_memory.md R50, R51): pattern `p` is entry `p`, its word `i` entry `i` of that. The form is
canonical: equal memories are equal data. What is not listed does not exist. -/
structure Memory where
  patterns : List (List Word)
deriving DecidableEq, Repr

/-- An external event (60_exceptions.md R209, 46_tick_loop.md R197). -/
inductive Event where
  /-- The tick strobe (R185). -/
  | strobe
  /-- The consumer reads `outSample` and clears `ready` (R193). -/
  | consume
  /-- The host's `loadSong(SONG, START_PATTERN)` (R233). -/
  | loadSong (song : Memory) (start : StartPattern)
  /-- Construction reset (R231). -/
  | construct
deriving DecidableEq, Repr

/-- The whole state: the engine of 10_state.md with its two voices, its read-only memories and parameters (R45), and
two fields of the model's own, `active` (log 3) and `schedule` (log 2). -/
structure State where
  /-- The parameters of 00_scope.md R12. No step changes them. -/
  cfg : Config
  /-- Pattern memory, `SONG`. -/
  mem : Memory
  /-- `START_PATTERN` of the current song. -/
  startPattern : StartPattern
  /-- `V[0]`. -/
  voice0 : Voice
  /-- `V[1]`. -/
  voice1 : Voice
  /-- Global speed (R40). -/
  speed : Byte
  /-- Global tick counter (R41). -/
  tickCounter : BitVec 32
  /-- A song is loaded (R42). -/
  songLoaded : Bool
  /-- Output register (R43). -/
  outSample : Int
  /-- Sample-ready flag (R43). -/
  ready : Bool
  /-- `E.faultKind`; `E.faulted` is that one is recorded (R44; log 7). -/
  faultKind : Option Fault
  /-- Diagnostic stream, oldest first (R46). -/
  diag : List DiagRecord
  /-- The model's own: the voice whose sequencer step is running, the `v` of `step(E, v)` (R100; log 3). -/
  active : VoiceIdx
  /-- The model's own: the external events that come next, oldest first (R210; log 2). -/
  schedule : List Event
deriving DecidableEq, Repr

/-- The answer of a meaning or a step. -/
abbrev Result := Host.Outcome State Fault Refusal

/-- A voice after construction reset (10_state.md R47; 70_reset_and_hazards.md R232): the zeros of the original's
static storage, and the tick table seeded from its defaults. The values are the spec's decision D5; that the model
takes them and not R232's free draws is log 15. -/
def Voice.construct (c : Config) : Voice where
  freq := 0
  instr := none
  atkTime := 0
  decTime := 0
  relTime := 0
  atkLevel := 0
  susLevel := 0
  phase := 0
  age := 0
  released := false
  relMark := 0
  countdown := 0
  ticks := c.defaultTicks
  pat := 0
  cur := 0

/-- The block after construction reset with configuration `c` (70_reset_and_hazards.md R231, R232, 10_state.md R47).
The speed is the parameter `INIT_SPEED` (R232).
`outSample` is a free value (log 5); `pat` is 0 where R47 gives no value (log 6). -/
def State.construct (c : Config) : State where
  cfg := c
  mem := ⟨[]⟩
  startPattern := ⟨0, 1⟩
  voice0 := Voice.construct c
  voice1 := Voice.construct c
  speed := c.initSpeed
  tickCounter := 0
  songLoaded := false
  outSample := Config.openOutSample
  ready := false
  faultKind := none
  diag := []
  active := .v0
  schedule := []

/-- The machine right after reset: construction (70_reset_and_hazards.md R231) with an admitted configuration, whose
OPEN parameters are left free (log 4). -/
def State.reset : State := State.construct Config.shipped

end Sys2Proof.Machine
end

