-- ==== Sys2Proof/Machine/Ops.lean ====
section
/-! DEFINITION. The shared operations: the arithmetic primitives of 00_scope.md R15, reading pattern memory
(20_memory.md R51), reading and writing a voice, taking a model fault (60_exceptions.md R205), making a report
(R201). -/

namespace Sys2Proof.Machine

/-! ### Arithmetic (00_scope.md R15) -/

/-- `tdiv(a, b)`: signed division truncating toward zero. -/
def tdiv (a : Int) (b : Nat) : Int := Int.tdiv a b

/-- `sat_sub(a, b)`. -/
def satSub (a b : Nat) : Nat := a - b

/-- `sat_inc_32(a)`. -/
def satInc32 (a : BitVec 32) : BitVec 32 := BitVec.ofNat 32 (min (a.toNat + 1) (2 ^ 32 - 1))

/-- `clamp(x, lo, hi)`. -/
def clamp (x lo hi : Int) : Int := min (max x lo) hi

/-! ### Pattern memory (20_memory.md R51) -/

/-- `N_PAT`. -/
def Memory.nPat (m : Memory) : Nat := m.patterns.length

/-- `PatLen(p)`; a pattern that does not exist has no words. -/
def Memory.patLen (m : Memory) (p : Nat) : Nat := (m.patterns.getD p []).length

/-- `PatRead(p, i)`; `none` where there is no such word. -/
def Memory.patRead (m : Memory) (p i : Nat) : Option Word := (m.patterns.getD p [])[i]?

/-- The bounds of 20_memory.md R52 items 1 and 2 that a pattern memory keeps at all times (a block without a song
has no pattern). -/
def Memory.wf (m : Memory) : Bool := m.nPat ≤ 256 && m.patterns.all (fun ws => ws.length ≤ 65535)

/-- List `l` with `x` at position `i`, made longer with `fill` where it is too short. -/
def placeAt {α : Type} (fill : α) : Nat → α → List α → List α
  | 0, x, [] => [x]
  | 0, x, _ :: t => x :: t
  | i + 1, x, [] => fill :: placeAt fill i x []
  | i + 1, x, h :: t => h :: placeAt fill i x t

/-- Pattern memory with word `w` at `(p, i)`. Not an operation of the block, which never writes pattern memory
(R66): it stands for a song supplied from outside. -/
def Memory.place (m : Memory) (p i : Nat) (w : Word) : Memory :=
  ⟨placeAt [] p (placeAt 0 i w (m.patterns.getD p [])) m.patterns⟩

/-! ### Voices -/

/-- `V[v]`. -/
def State.voice (s : State) (v : VoiceIdx) : Voice :=
  match v with
  | .v0 => s.voice0
  | .v1 => s.voice1

/-- `V[v] <- x`. -/
def State.setVoice (s : State) (v : VoiceIdx) (x : Voice) : State :=
  { s with
    voice0 := match v with | .v0 => x | .v1 => s.voice0
    voice1 := match v with | .v0 => s.voice1 | .v1 => x }

/-- The voice whose sequencer step is running (40_sequencer_step.md R100). -/
def State.activeVoice (s : State) : Voice := s.voice s.active

/-- `f` applied to the voice whose sequencer step is running. -/
def State.onActive (s : State) (f : Voice → Voice) : State := s.setVoice s.active (f s.activeVoice)

/-- The cursor's advance past the word being executed (40_sequencer_step.md R101). -/
def State.advanceCursor (s : State) : State := s.onActive fun v => { v with cur := v.cur + 1 }

/-! ### Model faults and reports -/

/-- `E.faulted` (10_state.md R44). -/
def State.faulted (s : State) : Bool := s.faultKind.isSome

/-- `raise Fault(kind)` (60_exceptions.md R205): records the first model fault and writes nothing else. Nothing
returns from one (R207); only construction clears it (10_state.md R44). -/
def State.raiseFault (s : State) (k : Fault) : State := { s with faultKind := s.faultKind.or (some k) }

/-- `Diag(kind, v, w)` (60_exceptions.md R201), made unless `ok`: appends the record of the voice being stepped, the
word being executed and the tick counter. -/
def State.reportUnless (s : State) (ok : Bool) (kind : DiagKind) (w : Word) : State :=
  { s with diag := if ok then s.diag else s.diag ++ [⟨kind, s.active, w, s.tickCounter⟩] }

/-- The report codes of 60_exceptions.md R202. -/
def DiagKind.code : DiagKind → Nat
  | .invalidEffect => 1
  | .patternIndexRange => 2
  | .instrumentIndexRange => 3
  | .tickIndexRange => 4

/-! ### Sequencing of answers -/

/-- Goes on from a next state; a fault or a refusal stands. -/
def andThen (r : Result) (f : State → Result) : Result :=
  match r with
  | .next t => f t
  | .fault k => .fault k
  | .refused k => .refused k

end Sys2Proof.Machine
end

