-- ==== Sys2Proof/Machine/Envelope.lean ====
section
/-! DEFINITION. The envelope (44_envelope.md): a pure function of a voice. -/

namespace Sys2Proof.Machine

/-- The envelope's states (44_envelope.md R151). -/
inductive EnvPhase where
  | attack
  | decay
  | sustain
  | release
  | silent
deriving DecidableEq, Repr

/-- Samples since the release marker, `sat_sub(age, relMark)` (R155). -/
def releaseAge (v : Voice) : Nat := satSub v.age.toNat v.relMark.toNat

/-- The classification of R151, in its order. -/
def envPhase (v : Voice) : EnvPhase :=
  if v.released then
    if v.relTime.toNat ≤ releaseAge v then .silent else .release
  else if v.age.toNat < v.atkTime.toNat then .attack
  else if v.age.toNat < v.decTime.toNat then .decay
  else .sustain

/-- The attack ramp (R153). -/
def attackPct (v : Voice) : Nat := v.atkLevel.toNat * v.age.toNat / v.atkTime.toNat

/-- The decay ramp (R154), which rises when the sustain level is above the attack level. -/
def decayPct (v : Voice) : Nat :=
  let t := v.age.toNat - v.atkTime.toNat
  let span := v.decTime.toNat - v.atkTime.toNat
  if v.susLevel.toNat ≤ v.atkLevel.toNat then
    v.atkLevel.toNat - (v.atkLevel.toNat - v.susLevel.toNat) * t / span
  else v.atkLevel.toNat + (v.susLevel.toNat - v.atkLevel.toNat) * t / span

/-- The release ramp (R155). -/
def releasePct (v : Voice) : Nat :=
  v.susLevel.toNat - v.susLevel.toNat * releaseAge v / v.relTime.toNat

/-- `envPct(V)` (R150, R159). -/
def envPct (v : Voice) : Nat :=
  match envPhase v with
  | .attack => attackPct v
  | .decay => decayPct v
  | .sustain => v.susLevel.toNat
  | .release => releasePct v
  | .silent => 0

end Sys2Proof.Machine
end

