-- ==== Sys2Proof/Machine/Operands.lean ====
section
/-! DEFINITION. What an operand stands for: duration codes, counts of table ticks, levels, times, note numbers,
instrument indices and reserved words. -/

namespace Sys2Proof.Machine

/-- `V[v].ticks[d]` (41_note.md R110): the count of table ticks a duration code selects. -/
def durTicks (v : Voice) (d : DurCode) : Byte := v.ticks[d.toNat]

/-- The countdown a note-class word sets, `(pt + nt) * E.speed` (41_note.md R113). -/
def noteCountdown (pt nt speed : Byte) : BitVec 32 :=
  BitVec.ofNat 32 ((pt.toNat + nt.toNat) * speed.toNat)

/-- The countdown `PAUSE t` sets, `t * E.speed` (42_effects.md R121). -/
def pauseCountdown (t speed : Byte) : BitVec 32 := BitVec.ofNat 32 (t.toNat * speed.toNat)

/-- The level `ALEVEL l` or `SLEVEL l` stores (42_effects.md R124, R125). -/
def storedLevel (c : Config) (l : Byte) : Byte :=
  if c.levelClamp then BitVec.ofNat 8 (min l.toNat 100) else l

/-- `MS_TO_SAMPLES(k)` (43_timing_words.md R140). -/
def msToSamples (c : Config) (k : Imm12) : Nat :=
  match c.msScale with
  | .perMillisecond => k.toNat * c.sampleRate / 1000
  | .table t => t[k.toNat]

/-- `NoteFreq(n)` for `n` in 1..127 (20_memory.md R55). -/
def noteFreq (c : Config) (n : BitVec 7) : BitVec 16 := c.noteFreq[n.toNat - 1]

/-- `N_INSTR`. -/
def nInstr (c : Config) : Nat := c.instruments.length

/-- Instrument `k`; an index out of range, which no admitted run reaches (log 10), reads as an empty one. -/
def instrument (c : Config) (k : Byte) : Instrument := c.instruments.getD k.toNat ⟨[], false⟩

/-- `InstrLen(k)` (20_memory.md R53). -/
def instrLen (c : Config) (k : Byte) : Nat := (instrument c k).shape.length

/-- `InstrRead(k, j)` (20_memory.md R53); a sample out of range, which no admitted run reaches (log 10), reads as
0. -/
def instrRead (c : Config) (k : Byte) (j : Nat) : Int := (instrument c k).shape.getD j 0

/-- `InstrInterp(k)` (20_memory.md R53). -/
def instrInterp (c : Config) (k : Byte) : Bool := (instrument c k).interp

/-- The fields a reserved word has under `RESERVED_POLICY = AsNote`: `w[13:11]`, `w[9:7]`, `w[6:0]` (30_encoding.md
R84). -/
def asNoteDur (w : Word) : DurCode := bits w 11 3

/-- See `asNoteDur`. -/
def asNotePause (w : Word) : DurCode := bits w 7 3

/-- See `asNoteDur`. -/
def asNoteNumber (w : Word) : BitVec 7 := bits w 0 7

end Sys2Proof.Machine
end

