-- ==== Sys2Proof/Machine/Oscillator.lean ====
section
/-! DEFINITION. The wavetable oscillator (45_oscillator.md). -/

namespace Sys2Proof.Machine

/-- `PHASEACC_MAX = 2^PHASE_BITS` (00_scope.md R12). -/
def phaseMax (c : Config) : Nat := 2 ^ c.phaseBits

/-- The phase increment (R171). -/
def phaseInc (c : Config) (v : Voice) : Nat := v.freq.toNat * phaseMax c / c.sampleRate

/-- The phase accumulator after its advance (R171). -/
def nextPhase (c : Config) (v : Voice) : Nat := (v.phase + phaseInc c v) % phaseMax c

/-- The table position of a phase in a table of `len` entries (R172). -/
def tablePos (c : Config) (phase len : Nat) : Nat := phase * len / phaseMax c

/-- The fraction of a phase past its table position, times `P` (R174). -/
def phaseFrac (c : Config) (phase len : Nat) : Nat := phase * len - tablePos c phase len * phaseMax c

/-- The direct lookup (R173). -/
def directSample (c : Config) (k : Byte) (phase : Nat) : Int := instrRead c k (tablePos c phase (instrLen c k))

/-- The interpolated lookup (R174): the next entry wraps to entry 0 after the last. -/
def interpSample (c : Config) (k : Byte) (phase : Nat) : Int :=
  let len := instrLen c k
  let s0 := instrRead c k (tablePos c phase len)
  let s1 := instrRead c k ((tablePos c phase len + 1) % len)
  s0 + tdiv ((s1 - s0) * (phaseFrac c phase len : Int)) (phaseMax c)

/-- The raw sample of instrument `k` at a phase (R173, R174). -/
def instrSample (c : Config) (k : Byte) (phase : Nat) : Int :=
  if instrInterp c k && c.interpEnable then interpSample c k phase else directSample c k phase

/-- The raw sample of a voice at its phase; 0 with no instrument (R176). -/
def rawSample (c : Config) (v : Voice) : Int :=
  match v.instr with
  | none => 0
  | some k => instrSample c k v.phase

/-- The envelope's scaling of a raw sample (R177). -/
def scaleSample (raw : Int) (pct : Nat) : Int := tdiv (raw * (pct : Int)) 100

/-- Whether the oscillator does anything for a voice (R176, `NO_INSTR_ADVANCES`). -/
def oscRuns (c : Config) (v : Voice) : Bool := v.instr.isSome || c.noInstrAdvances

/-- The voice after one oscillator evaluation: phase and age advanced (R171, R178). -/
def oscVoice (c : Config) (v : Voice) : Voice :=
  { v with
    phase := if oscRuns c v then nextPhase c v else v.phase
    age := if oscRuns c v then satInc32 v.age else v.age }

/-- The sample of one oscillator evaluation (R170, R179): the raw sample at the new phase, scaled by the envelope at
the age before its advance. -/
def oscSample (c : Config) (v : Voice) : Int :=
  if oscRuns c v then scaleSample (rawSample c { v with phase := nextPhase c v }) (envPct v) else 0

end Sys2Proof.Machine
end

