-- ==== Sys2Proof/Machine/Effect.lean ====
section
/-! DEFINITION. The effect family: PAUSE, JUMP, INSTR, ALEVEL, SLEVEL, SPEED and the invalid effect
(42_effects.md). -/

namespace Sys2Proof.Machine

/-- `PAUSE t` (R121). -/
def execPause (t : Byte) (s : State) : Result :=
  .next (s.advanceCursor.onActive fun v => { v with countdown := pauseCountdown t s.speed })

/-- `JUMP p` (R122): taken when `p < N_PAT`, else reported and ignored. -/
def execJump (p : Byte) (s : State) : Result :=
  let ok : Bool := p.toNat < s.mem.nPat
  .next ((s.advanceCursor.onActive fun v =>
      { v with pat := if ok then p else v.pat, cur := if ok then 0 else v.cur }).reportUnless ok
    .patternIndexRange (encode (.jump p)))

/-- `INSTR k` (R123): selects when `k < N_INSTR`, else reported and ignored. -/
def execInstr (k : Byte) (s : State) : Result :=
  let ok : Bool := k.toNat < nInstr s.cfg
  .next ((s.advanceCursor.onActive fun v => { v with instr := if ok then some k else v.instr }).reportUnless ok
    .instrumentIndexRange (encode (.instr k)))

/-- `ALEVEL l` (R124). -/
def execAlevel (l : Byte) (s : State) : Result :=
  .next (s.advanceCursor.onActive fun v => { v with atkLevel := storedLevel s.cfg l })

/-- `SLEVEL l` (R125). -/
def execSlevel (l : Byte) (s : State) : Result :=
  .next (s.advanceCursor.onActive fun v => { v with susLevel := storedLevel s.cfg l })

/-- `SPEED s` (R126): the one word that writes an engine field. -/
def execSpeed (m : Byte) (s : State) : Result := .next { s.advanceCursor with speed := m }

/-- `EFFECT e, a` with `e` 0 or 7..15 (R127): reported, no other effect. -/
def execEffectInvalid (e : BitVec 4) (a : Byte) (s : State) : Result :=
  .next (s.advanceCursor.reportUnless false .invalidEffect (encode (.effectInvalid e a)))

end Sys2Proof.Machine
end

