-- ==== Sys2Proof/Machine/Flags.lean ====
section
/-! DEFINITION. The one-bit fields (10_state.md R39) and how they are computed. The block has no condition codes. -/

namespace Sys2Proof.Machine

/-- `released` after a note-on with pause ticks `pt` (41_note.md R111): the same with and without
`RELEASE_SENTINEL_COMPAT`. -/
def releasedByNoteOn (pt : Byte) : Bool := pt != 0

/-- `released` after a note-off at note age `age` (41_note.md R112, 10_state.md R34). -/
def releasedByNoteOff (c : Config) (age : BitVec 32) : Bool :=
  if c.releaseSentinelCompat then age != 0 else true

/-- `E.ready <- true` with the sample it announces (46_tick_loop.md R192). -/
def State.emit (s : State) (y : Int) : State := { s with outSample := y, ready := true }

/-- The consumer's `E.ready <- false` (46_tick_loop.md R193). -/
def State.clearReady (s : State) : State := { s with ready := false }

end Sys2Proof.Machine
end

