-- ==== Sys2Proof/Machine/Note.lean ====
section
/-! DEFINITION. The note family: NOTE and REST (41_note.md). -/

namespace Sys2Proof.Machine

/-- `noteOn(v, n, pt)` (41_note.md R111). -/
def noteOn (c : Config) (n : BitVec 7) (pt : Byte) (v : Voice) : Voice :=
  { v with
    freq := noteFreq c n
    age := 0
    relMark := pt.setWidth 32
    released := releasedByNoteOn pt }

/-- `noteOff(v)` (41_note.md R112). -/
def noteOff (c : Config) (v : Voice) : Voice :=
  { v with
    relMark := v.age
    released := releasedByNoteOff c v.age }

/-- A note-class word with codes `d`, `p` and note number `n` on one voice: note-on or, for `n = 0`, note-off, then
the countdown (41_note.md R110 to R115). Both codes are looked up before anything is written. -/
def noteVoice (c : Config) (speed : Byte) (d p : DurCode) (n : BitVec 7) (v : Voice) : Voice :=
  let nt := durTicks v d
  let pt := durTicks v p
  if n = 0 then { noteOff c v with countdown := noteCountdown pt nt speed }
  else { noteOn c n pt v with countdown := noteCountdown pt nt speed }

/-- A note-class word: the cursor's advance, then the word's effect on the active voice. -/
def noteClass (d p : DurCode) (n : BitVec 7) (s : State) : State :=
  s.advanceCursor.onActive (noteVoice s.cfg s.speed d p n)

/-- `NOTE n, d, p` (41_note.md R114). -/
def execNote (d p : DurCode) (n : BitVec 7) (s : State) : Result := .next (noteClass d p n s)

/-- `REST d, p` (41_note.md R115). -/
def execRest (d p : DurCode) (s : State) : Result := .next (noteClass d p 0 s)

end Sys2Proof.Machine
end

