-- ==== Sys2Proof/Machine/Reserved.lean ====
section
/-! DEFINITION. The reserved words (30_encoding.md R84, 40_sequencer_step.md R104). -/

namespace Sys2Proof.Machine

/-- A reserved word at execution, by `RESERVED_POLICY` (40_sequencer_step.md R104). Under `Refuse` nothing but the
fault record is written, so the cursor stays on the word (46_tick_loop.md R196). -/
def reservedWord (w : Word) (s : State) : State :=
  match s.cfg.reservedPolicy with
  | .refuse => s.raiseFault .reservedWord
  | .asNote => noteClass (asNoteDur w) (asNotePause w) (asNoteNumber w) s

/-- A reserved note-class word (30_encoding.md R73). -/
def execRsvNote (b14 : BitVec 1) (d : DurCode) (b10 : BitVec 1) (p : DurCode) (n : BitVec 7) (s : State) : Result :=
  .next (reservedWord (encode (.rsvNote b14 d b10 p n)) s)

/-- A reserved word `0xDxxx` (30_encoding.md R78). -/
def execRsvD (x : Imm12) (s : State) : Result := .next (reservedWord (encode (.rsvD x)) s)

/-- A reserved word `0xExxx` (30_encoding.md R78). -/
def execRsvE (x : Imm12) (s : State) : Result := .next (reservedWord (encode (.rsvE x)) s)

/-- A reserved word `0xFxxx` (30_encoding.md R78). -/
def execRsvF (x : Imm12) (s : State) : Result := .next (reservedWord (encode (.rsvF x)) s)

end Sys2Proof.Machine
end

