-- ==== Sys2Proof/Machine/Timing.lean ====
section
/-! DEFINITION. The timing-parameter family: TICK, ATTACK, DECAY, RELEASE (43_timing_words.md). -/

namespace Sys2Proof.Machine

/-- `TICK i, x` (R141): writes the table when `i < 8`, else reported and ignored. -/
def execTick (i : BitVec 4) (x : Byte) (s : State) : Result :=
  let ok : Bool := i.toNat < 8
  .next ((s.advanceCursor.onActive fun v => { v with ticks := v.ticks.setIfInBounds i.toNat x }).reportUnless ok
    .tickIndexRange (encode (.tick i x)))

/-- `ATTACK k` (R142): the decay end is not recomputed. -/
def execAttack (k : Imm12) (s : State) : Result :=
  .next (s.advanceCursor.onActive fun v => { v with atkTime := BitVec.ofNat 32 (msToSamples s.cfg k) })

/-- `DECAY k` (R143): the sum is taken once, from the attack time of now. -/
def execDecay (k : Imm12) (s : State) : Result :=
  .next (s.advanceCursor.onActive fun v =>
    { v with decTime := BitVec.ofNat 32 (v.atkTime.toNat + msToSamples s.cfg k) })

/-- `RELEASE k` (R144). -/
def execRelease (k : Imm12) (s : State) : Result :=
  .next (s.advanceCursor.onActive fun v => { v with relTime := BitVec.ofNat 32 (msToSamples s.cfg k) })

end Sys2Proof.Machine
end

