-- ==== Sys2Proof/Machine/Dispatch.lean ====
section
/-! DEFINITION. The dispatch of 40_sequencer_step.md R103: one arm per constructor of Instr. -/

namespace Sys2Proof.Machine

def exec (i : Instr) (s : State) : Host.Outcome State Fault Refusal :=
  match i with
  | .note d p n => Sys2Proof.Machine.execNote d p n s
  | .rest d p => Sys2Proof.Machine.execRest d p s
  | .rsvNote b14 d b10 p n => Sys2Proof.Machine.execRsvNote b14 d b10 p n s
  | .effectInvalid e a => Sys2Proof.Machine.execEffectInvalid e a s
  | .pause t => Sys2Proof.Machine.execPause t s
  | .jump p => Sys2Proof.Machine.execJump p s
  | .instr k => Sys2Proof.Machine.execInstr k s
  | .alevel l => Sys2Proof.Machine.execAlevel l s
  | .slevel l => Sys2Proof.Machine.execSlevel l s
  | .speed m => Sys2Proof.Machine.execSpeed m s
  | .tick n x => Sys2Proof.Machine.execTick n x s
  | .attack k => Sys2Proof.Machine.execAttack k s
  | .decay k => Sys2Proof.Machine.execDecay k s
  | .release k => Sys2Proof.Machine.execRelease k s
  | .rsvD x => Sys2Proof.Machine.execRsvD x s
  | .rsvE x => Sys2Proof.Machine.execRsvE x s
  | .rsvF x => Sys2Proof.Machine.execRsvF x s

end Sys2Proof.Machine
end

