-- ==== Sys2Proof/Machine/Sequencer.lean ====
section
/-! DEFINITION. The sequencer step: fetch, decode, dispatch (40_sequencer_step.md). -/

namespace Sys2Proof.Machine

/-- The word at a voice's program counter; `none` at or past the end of its pattern (R101, R102). -/
def State.fetch (s : State) (v : VoiceIdx) : Option Word :=
  s.mem.patRead (s.voice v).pat.toNat (s.voice v).cur.toNat

/-- `exec i` with voice `v` as the one being stepped; `active` is put back after. -/
def execAs (v : VoiceIdx) (i : Instr) (s : State) : Result :=
  andThen (exec i { s with active := v }) fun t => .next { t with active := s.active }

/-- `step(E, v)` of 40_sequencer_step.md R107. -/
def seqStep (v : VoiceIdx) (s : State) : Result :=
  match s.fetch v with
  | none => .next (s.raiseFault .cursorOverrun)
  | some w => execAs v (decode w) s

end Sys2Proof.Machine
end

