-- ==== Sys2Proof/Machine/Tick.lean ====
section
/-! DEFINITION. The tick invocation (46_tick_loop.md). -/

namespace Sys2Proof.Machine

/-- The decrement of a voice's countdown, if it is nonzero (R187). -/
def State.decrement (s : State) (v : VoiceIdx) : State :=
  s.setVoice v { s.voice v with
    countdown := if (s.voice v).countdown = 0 then 0 else (s.voice v).countdown - 1 }

/-- One voice's sequencer phase (R185, R187): a step when the countdown is zero, then, unless the step faulted, the
decrement. -/
def seqPhase (v : VoiceIdx) (s : State) : Result :=
  andThen (if (s.voice v).countdown = 0 then seqStep v s else .next s) fun t =>
    if t.faulted then .next t else .next (t.decrement v)

/-- The mixed output value of two samples (R190). -/
def mix (c : Config) (s0 s1 : Int) : Int := clamp (s0 + s1 + c.outBias) c.outMin c.outMax

/-- The synthesis phase and the end of an invocation (R185, R189 to R192). -/
def State.synthesize (s : State) : State :=
  let y := mix s.cfg (oscSample s.cfg s.voice0) (oscSample s.cfg s.voice1)
  { s.emit y with
    voice0 := oscVoice s.cfg s.voice0
    voice1 := oscVoice s.cfg s.voice1
    tickCounter := s.tickCounter + 1 }

/-- An executed invocation: both sequencer phases, voice 0's first, then synthesis; a model fault stops it at once
(R185, R188, R196). -/
def runInvocation (s : State) : Result :=
  andThen (seqPhase .v0 s) fun a =>
    if a.faulted then .next a
    else andThen (seqPhase .v1 a) fun b =>
      if b.faulted then .next b else .next b.synthesize

/-- `tick(E)` of 46_tick_loop.md R185, with the entry conditions of R186 in their order. A faulted block has no step
(R196): the answer is the recorded fault. -/
def tick (s : State) : Result :=
  match s.faultKind with
  | some k => .fault k
  | none =>
    if s.songLoaded then
      if s.ready then .next s else runInvocation s
    else .next (s.raiseFault .noSong)

end Sys2Proof.Machine
end

