-- ==== Sys2Proof/Machine/Events.lean ====
section
/-! DEFINITION. The external events: consumer, `loadSong`, construction (70_reset_and_hazards.md, 46_tick_loop.md
R193), and which of them a step runs. -/

namespace Sys2Proof.Machine

/-- A song is admitted with its start patterns (20_memory.md R52, items 1 to 4). -/
def songAdmitted (c : Config) (m : Memory) (sp : StartPattern) : Bool :=
  m.wf && 1 ≤ m.nPat && sp.p0.toNat < m.nPat && sp.p1.toNat < m.nPat &&
    (c.reservedPolicy == .asNote || m.patterns.all fun ws => ws.all fun w => !isReservedWord w)

/-- `MS_TO_SAMPLES` fits (43_timing_words.md R140): its value at 4095, and every entry of a table, is below 2^31
(DEDUCED, log 9). DESIGN CHOICE, log 16: entry 0 of a table may be nonzero, in which case the time words follow their
pseudocode and not the `k = 0` corner cases of R142, R143 and R144, which need `MS_TO_SAMPLES(0) = 0`. -/
def msScaleAdmitted (c : Config) : Bool :=
  match c.msScale with
  | .perMillisecond => 4095 * c.sampleRate / 1000 < 2 ^ 31
  | .table t => t.all fun n => n < 2 ^ 31

/-- The instrument table is admitted (20_memory.md R54). -/
def instrumentsAdmitted (c : Config) : Bool :=
  c.instruments.length ≤ 256 && c.instruments.all fun ins =>
    1 ≤ ins.shape.length && ins.shape.all fun x => c.sampleMin ≤ x && x ≤ c.sampleMax

/-- The constraints of 00_scope.md R12, 20_memory.md R54 and 43_timing_words.md R140. -/
def configAdmitted (c : Config) : Bool :=
  0 < c.sampleRate && 1 ≤ c.phaseBits && c.sampleMin ≤ 0 && 0 ≤ c.sampleMax && c.outMin ≤ c.outMax &&
    instrumentsAdmitted c && msScaleAdmitted c

/-- The fields `loadSong` always writes in a voice (70_reset_and_hazards.md R233); `pat`, `cur` and `countdown` are those
R232 names as having a source value. -/
def restartVoice (start : Byte) (v : Voice) : Voice :=
  { v with
    pat := start
    cur := 0
    countdown := 0
    age := 0
    released := false
    relMark := 0
    phase := 0 }

/-- What `loadSong` does to one voice (R233): under `LOADSONG_FULL_RESET` the other fields get their construction
values too. -/
def loadVoice (c : Config) (start : Byte) (v : Voice) : Voice :=
  if c.loadSongFullReset then restartVoice start (Voice.construct c) else restartVoice start v

/-- `loadSong(SONG, START_PATTERN)` of an admitted song (R233). -/
def State.load (s : State) (m : Memory) (sp : StartPattern) : State :=
  { s with
    mem := m
    startPattern := sp
    voice0 := loadVoice s.cfg sp.p0 s.voice0
    voice1 := loadVoice s.cfg sp.p1 s.voice1
    tickCounter := 0
    speed := if s.cfg.loadSongFullReset then s.cfg.initSpeed else s.speed
    songLoaded := true }

/-- `loadSong`: refused when the block's configuration is not admitted (20_memory.md R54, decision D42; log 14), so
that no song starts on one, and when the song is not well-formed (R52). -/
def loadSong (m : Memory) (sp : StartPattern) (s : State) : Result :=
  if configAdmitted s.cfg then
    if songAdmitted s.cfg m sp then .next (s.load m sp) else .refused .songNotWellFormed
  else .refused .configNotAdmitted

/-- The consumer's step (46_tick_loop.md R193). Where `ready` is false the consumer has no step and nothing
changes. -/
def consume (s : State) : Result := .next s.clearReady

/-- Construction reset (70_reset_and_hazards.md R231) with the configuration the block has, which is fixed; the
events still to come stay. -/
def reconstruct (s : State) : Result :=
  if configAdmitted s.cfg then .next { State.construct s.cfg with schedule := s.schedule }
  else .refused .configNotAdmitted

/-- One external event. -/
def applyEvent (e : Event) (s : State) : Result :=
  match e with
  | .strobe => tick s
  | .consume => consume s
  | .loadSong m sp => loadSong m sp s
  | .construct => reconstruct s

/-- The next event of the schedule happens; when none is listed, a strobe (log 2). -/
def nextEvent (s : State) : Result :=
  match s.schedule with
  | [] => applyEvent .strobe s
  | e :: rest => applyEvent e { s with schedule := rest }

end Sys2Proof.Machine
end

