-- ==== Sys2Proof/Machine/Step.lean ====
section
/-! DEFINITION. One step: one external event, a tick invocation among them (60_exceptions.md R209, R210). -/

namespace Sys2Proof.Machine

/-- One step of the machine. -/
def step (s : State) : Host.Outcome State Fault Refusal := nextEvent s

/-- `s` with the word stored where the next step fetches: at voice 0's program counter, with a song loaded, the next
event a strobe that is not skipped, voice 0 due to decode and voice 1 not (log 11). -/
def State.withFetchWord (s : State) (nbits w : Nat) : State :=
  { s with
    mem := s.mem.place s.voice0.pat.toNat s.voice0.cur.toNat (tableWord nbits w)
    voice0 := { s.voice0 with countdown := 0 }
    voice1 := { s.voice1 with countdown := 1 }
    songLoaded := true
    ready := false
    faultKind := none
    schedule := .strobe :: s.schedule }

end Sys2Proof.Machine
end

