-- ==== Sys2Proof/Machine/Run.lean ====
section
/-! DEFINITION. Runs and their end (70_reset_and_hazards.md R251). -/

namespace Sys2Proof.Machine

/-- How many of `k` strobes are still to come after the next event of `s`: a strobe, listed or by an empty schedule
(log 2), is one of them, whether the invocation is executed or skipped. -/
def State.strobesLeft (s : State) (k : Nat) : Nat :=
  match s.schedule with
  | [] => k - 1
  | .strobe :: _ => k - 1
  | .consume :: _ => k
  | .loadSong _ _ :: _ => k
  | .construct :: _ => k

/-- At most `n` steps, stopping after `k` strobes and at the first model fault. -/
def runSteps : Nat → Nat → State → Result
  | 0, _, s => .next s
  | n + 1, k, s =>
    if k = 0 ∨ s.faulted = true then .next s else andThen (step s) (runSteps n (s.strobesLeft k))

/-- The end of a run of `k` strobes (70_reset_and_hazards.md R251, decision D45): the state after `k` tick strobes,
executed or skipped, under the consumer and host events of the schedule, or at the first model fault, whichever comes
first. A step takes an event off the schedule or a strobe off the count, so these are steps enough
(`runEnd_step`). -/
def runEnd (k : Nat) (s : State) : Result := runSteps (k + s.schedule.length) k s

end Sys2Proof.Machine
end

