-- ==== Sys2Proof/Safety.lean ====
section
/-! DEFINITION. The terms claims about runs are made in: what a voice and a state keep at all times. Every clause
comes from 10_state.md R21 (legal values) or from what the rules cited beside it say of the field. -/

namespace Sys2Proof.Machine

/-- What every voice keeps (10_state.md R21). -/
structure Voice.Ok (c : Config) (m : Memory) (loaded : Bool) (v : Voice) : Prop where
  /-- The accumulator stays inside its ring (R29). -/
  phase_lt : v.phase < 2 ^ c.phaseBits
  /-- A selected instrument exists (R23). -/
  instr_lt : ∀ k, v.instr = some k → k.toNat < c.instruments.length
  /-- Levels are percentages under `LEVEL_CLAMP` (R27, R28). -/
  levels_le : c.levelClamp = true → v.atkLevel.toNat ≤ 100 ∧ v.susLevel.toNat ≤ 100
  /-- The largest countdown a word can write (R35). -/
  countdown_le : v.countdown.toNat ≤ 130050
  /-- Attack and release times fit when `MS_TO_SAMPLES` is admitted (43_timing_words.md R140). -/
  times_lt : msScaleAdmitted c = true → v.atkTime.toNat < 2 ^ 31 ∧ v.relTime.toNat < 2 ^ 31
  /-- A voice that is not released has marker 0 (41_note.md R111, R112). -/
  mark_zero : v.released = false → v.relMark = 0
  /-- Under `RELEASE_SENTINEL_COMPAT` the flag is `relMark ≠ 0` (R34). -/
  mark_compat : c.releaseSentinelCompat = true → v.released = true → v.relMark ≠ 0
  /-- The marker is an age that was reached, or a note-on's pause ticks (R33). -/
  mark_le : v.relMark.toNat ≤ max v.age.toNat 255
  /-- The program counter points into the song, at most to a pattern's end (R37, R38). -/
  pc_in : loaded = true → v.pat.toNat < m.nPat ∧ v.cur.toNat ≤ m.patLen v.pat.toNat

/-- What the whole state keeps. -/
structure State.Inv (s : State) : Prop where
  voice0_ok : s.voice0.Ok s.cfg s.mem s.songLoaded
  voice1_ok : s.voice1.Ok s.cfg s.mem s.songLoaded
  /-- The configuration is one the spec admits (00_scope.md R12, 20_memory.md R54, 43_timing_words.md R140). -/
  config_ok : configAdmitted s.cfg = true
  /-- Pattern memory keeps its bounds (20_memory.md R52 items 1, 2). -/
  mem_wf : s.mem.wf = true
  /-- A loaded song has a pattern (R52 item 1). -/
  song_nonempty : s.songLoaded = true → 1 ≤ s.mem.nPat
  /-- Under `Refuse` a loaded song holds no reserved word (R52 item 4). -/
  song_admitted : s.songLoaded = true → s.cfg.reservedPolicy = .refuse →
    ∀ p i w, s.mem.patRead p i = some w → isReservedWord w = false
  /-- A sample that waits is in the output's range (10_state.md R43). -/
  out_range : s.cfg.outMin ≤ s.cfg.outMax → s.ready = true →
    s.cfg.outMin ≤ s.outSample ∧ s.outSample ≤ s.cfg.outMax

/-- No model fault is recorded: the premise of every claim about a run (10_state.md R44). -/
abbrev State.Unfaulted (s : State) : Prop := s.faultKind = none

/-- The next event is a tick strobe: listed first, or none is listed. -/
abbrev State.StrobeNext (s : State) : Prop := s.schedule = [] ∨ s.schedule.head? = some .strobe

/-- The entry conditions of an executed invocation (46_tick_loop.md R186). -/
abbrev State.Runs (s : State) : Prop := s.faultKind = none ∧ s.songLoaded = true ∧ s.ready = false

end Sys2Proof.Machine
end

