-- ==== Sys2Proof/Certificates/Slice0/Obligations.lean ====
section
/-! DEFINITION. The statements for the provers. A clause that rests on a decision the spec marks as its own names the
decision (92_eei_decisions.md D<n>); a clause that rests on a choice of the model names the log entry. Every statement
about a state is one about every configuration, since the parameters are a field of State (log 1). -/

namespace Sys2Proof.Claims

open Sys2Proof.Machine

/-- The voice that is not `v`. -/
def other : VoiceIdx → VoiceIdx
  | .v0 => .v1
  | .v1 => .v0

/-- Every word of pattern memory, every sample of instrument memory and every entry of the note table reads in `t` as
in `s`, and the other parameters are the same. -/
def MemoryUnchanged (s t : State) : Prop :=
  (∀ p i, t.mem.patRead p i = s.mem.patRead p i) ∧ (∀ p, t.mem.patLen p = s.mem.patLen p) ∧
  t.mem.nPat = s.mem.nPat ∧ (∀ k j, instrRead t.cfg k j = instrRead s.cfg k j) ∧
  (∀ n, noteFreq t.cfg n = noteFreq s.cfg n) ∧ t.cfg = s.cfg

/-- The engine fields no word writes, and the model's own fields, are the same. -/
def EngineUnchanged (s t : State) : Prop :=
  t.tickCounter = s.tickCounter ∧ t.songLoaded = s.songLoaded ∧ t.outSample = s.outSample ∧ t.ready = s.ready ∧
  t.startPattern = s.startPattern ∧ t.active = s.active ∧ t.schedule = s.schedule

/-- The fields of a voice (10_state.md R21). -/
inductive VoiceField where
  | freq | instr | atkTime | decTime | relTime | atkLevel | susLevel | phase | age | released | relMark
  | countdown | ticks | pat | cur
deriving DecidableEq, Repr

/-- Voices `v` and `u` agree on a field. -/
def VoiceField.Same (v u : Voice) : VoiceField → Prop
  | .freq => u.freq = v.freq
  | .instr => u.instr = v.instr
  | .atkTime => u.atkTime = v.atkTime
  | .decTime => u.decTime = v.decTime
  | .relTime => u.relTime = v.relTime
  | .atkLevel => u.atkLevel = v.atkLevel
  | .susLevel => u.susLevel = v.susLevel
  | .phase => u.phase = v.phase
  | .age => u.age = v.age
  | .released => u.released = v.released
  | .relMark => u.relMark = v.relMark
  | .countdown => u.countdown = v.countdown
  | .ticks => u.ticks = v.ticks
  | .pat => u.pat = v.pat
  | .cur => u.cur = v.cur

/-- The table of 10_state.md R49, with the cursor every word advances; a reserved word may write what a note-class
word writes (40_sequencer_step.md R104). -/
def writtenFields : Instr → List VoiceField
  | .note _ _ _ => [.freq, .age, .released, .relMark, .countdown, .cur]
  | .rest _ _ => [.released, .relMark, .countdown, .cur]
  | .pause _ => [.countdown, .cur]
  | .jump _ => [.pat, .cur]
  | .instr _ => [.instr, .cur]
  | .alevel _ => [.atkLevel, .cur]
  | .slevel _ => [.susLevel, .cur]
  | .speed _ => [.cur]
  | .effectInvalid _ _ => [.cur]
  | .tick _ _ => [.ticks, .cur]
  | .attack _ => [.atkTime, .cur]
  | .decay _ => [.decTime, .cur]
  | .release _ => [.relTime, .cur]
  | .rsvNote _ _ _ _ _ => [.freq, .age, .released, .relMark, .countdown, .cur]
  | .rsvD _ => [.freq, .age, .released, .relMark, .countdown, .cur]
  | .rsvE _ => [.freq, .age, .released, .relMark, .countdown, .cur]
  | .rsvF _ => [.freq, .age, .released, .relMark, .countdown, .cur]

/-- Whether a word makes a diagnostic report in a state (60_exceptions.md R202). -/
def reports (s : State) : Instr → Bool
  | .effectInvalid _ _ => true
  | .jump p => s.mem.nPat ≤ p.toNat
  | .instr k => s.cfg.instruments.length ≤ k.toNat
  | .tick i _ => 8 ≤ i.toNat
  | _ => false

/-- `envPct` as 44_envelope.md R159 writes it out. -/
def envPctWritten (v : Voice) : Nat :=
  if v.released then
    if v.age.toNat - v.relMark.toNat ≥ v.relTime.toNat then 0
    else v.susLevel.toNat - v.susLevel.toNat * (v.age.toNat - v.relMark.toNat) / v.relTime.toNat
  else if v.age.toNat < v.atkTime.toNat then v.atkLevel.toNat * v.age.toNat / v.atkTime.toNat
  else if v.age.toNat < v.decTime.toNat then
    if v.atkLevel.toNat ≥ v.susLevel.toNat then
      v.atkLevel.toNat - (v.atkLevel.toNat - v.susLevel.toNat) * (v.age.toNat - v.atkTime.toNat) /
        (v.decTime.toNat - v.atkTime.toNat)
    else
      v.atkLevel.toNat + (v.susLevel.toNat - v.atkLevel.toNat) * (v.age.toNat - v.atkTime.toNat) /
        (v.decTime.toNat - v.atkTime.toNat)
  else v.susLevel.toNat

/-- `osc(E, v)` as 45_oscillator.md R179 writes it out, with the tables as lists: the voice after, and the sample. -/
def oscWritten (c : Config) (v : Voice) : Voice × Int :=
  if v.instr = none ∧ c.noInstrAdvances = false then (v, 0)
  else
    let bigP := 2 ^ c.phaseBits
    let phase := (v.phase + v.freq.toNat * bigP / c.sampleRate) % bigP
    let raw : Int :=
      match v.instr with
      | none => 0
      | some k =>
        let ins := c.instruments.getD k.toNat ⟨[], false⟩
        let len := ins.shape.length
        let pos := phase * len / bigP
        if ins.interp = true ∧ c.interpEnable = true then
          ins.shape.getD pos 0 +
            ((ins.shape.getD ((pos + 1) % len) 0 - ins.shape.getD pos 0) * ((phase * len - pos * bigP : Nat) : Int)).tdiv
              ((bigP : Nat) : Int)
        else ins.shape.getD pos 0
    ({ v with phase := phase, age := BitVec.ofNat 32 (min (v.age.toNat + 1) (2 ^ 32 - 1)) },
      (raw * (envPctWritten v : Int)).tdiv 100)

/-- The end of an invocation after voice 0's part of it has left `t`: voice 1's sequencer phase, then synthesis; a
fault stops it (46_tick_loop.md R185, R196). -/
def restOfInvocation (t : State) : Result :=
  if t.faulted then .next t
  else andThen (seqPhase .v1 (t.decrement .v0)) fun b => if b.faulted then .next b else .next b.synthesize

/-- `n` strobes, each followed by the consumer's clear. -/
def strobes : Nat → List Event
  | 0 => []
  | n + 1 => .strobe :: .consume :: strobes n

/-- What a voice shows of its place in its song. -/
def SamePlace (v u : Voice) : Prop := u.pat = v.pat ∧ u.cur = v.cur

end Sys2Proof.Claims

open Sys2Proof Sys2Proof.Machine Sys2Proof.Claims

/-! ### Encoding -/

/-- 30_encoding.md R81: decoding an encoded instruction gives it back, for every instruction and every value of every
operand. -/
def Obligations.DecodeOfEncode : Prop :=
  ∀ i : Instr, i.wf = true → decode (encode i) = i

/-- 30_encoding.md R79, R81: every one of the 65536 words decodes to a well-formed instruction whose encoding it is. -/
def Obligations.EncodeOfDecode : Prop :=
  ∀ w : Word, (decode w).wf = true ∧ encode (decode w) = w

/-- 30_encoding.md R72: a word with bits 15, 14 and 10 clear is a note with `d = w[13:11]`, `p = w[9:7]`, `n = w[6:0]`,
or a rest when `n = 0`. -/
def Obligations.NoteWordFields : Prop :=
  ∀ d p n : Nat, d < 8 → p < 8 → n < 128 →
    decode (BitVec.ofNat 16 (d * 2 ^ 11 + p * 2 ^ 7 + n)) =
      if n = 0 then .rest (BitVec.ofNat 3 d) (BitVec.ofNat 3 p)
      else .note (BitVec.ofNat 3 d) (BitVec.ofNat 3 p) (BitVec.ofNat 7 n)

/-- 30_encoding.md R74, R75: an effect word with effect number `e` and argument `a` is the effect of that number; 0 and
7..15 are invalid. -/
def Obligations.EffectWordFields : Prop :=
  ∀ e a : Nat, e < 16 → a < 256 →
    decode (BitVec.ofNat 16 (0x8000 + e * 2 ^ 8 + a)) =
      match e with
      | 1 => .pause (BitVec.ofNat 8 a)
      | 2 => .jump (BitVec.ofNat 8 a)
      | 3 => .instr (BitVec.ofNat 8 a)
      | 4 => .alevel (BitVec.ofNat 8 a)
      | 5 => .slevel (BitVec.ofNat 8 a)
      | 6 => .speed (BitVec.ofNat 8 a)
      | _ => .effectInvalid (BitVec.ofNat 4 e) (BitVec.ofNat 8 a)

/-- 30_encoding.md R76, R77: the tick-table word's index is `w[11:8]` and its value `w[7:0]`; a time word's operand is
`w[11:0]`. -/
def Obligations.TimingWordFields : Prop :=
  (∀ i x : Nat, i < 16 → x < 256 →
    decode (BitVec.ofNat 16 (0x9000 + i * 2 ^ 8 + x)) = .tick (BitVec.ofNat 4 i) (BitVec.ofNat 8 x)) ∧
  ∀ k : Nat, k < 4096 →
    decode (BitVec.ofNat 16 (0xA000 + k)) = .attack (BitVec.ofNat 12 k) ∧
    decode (BitVec.ofNat 16 (0xB000 + k)) = .decay (BitVec.ofNat 12 k) ∧
    decode (BitVec.ofNat 16 (0xC000 + k)) = .release (BitVec.ofNat 12 k)

/-- 30_encoding.md R84 (decision D29): the reserved words are exactly `0xD000`..`0xFFFF` and the words with bit 15 clear
and bit 14 or bit 10 set. -/
def Obligations.ReservedWordsExactly : Prop :=
  ∀ w : Word, isReservedWord w = true ↔
    0xD000 ≤ w.toNat ∨ (w.getLsbD 15 = false ∧ (w.getLsbD 14 = true ∨ w.getLsbD 10 = true))

/-- Words written out in 30_encoding.md R88 and 95_test_vectors.md §2.1 decode to the instructions given there. -/
def Obligations.WrittenOutWordsDecode : Prop :=
  decode 0b0000100000000101 = .note 1 0 5 ∧ decode 0b0011101111111111 = .note 7 7 127 ∧
  decode 0b0000000000000000 = .rest 0 0 ∧ decode 0b0000100010000000 = .rest 1 1 ∧
  decode 0b1000000111111111 = .pause 255 ∧ decode 0b1000001000000011 = .jump 3 ∧
  decode 0b1000111100010010 = .effectInvalid 15 0x12 ∧ decode 0b1001000100000100 = .tick 1 4 ∧
  decode 0b1010000000001010 = .attack 10 ∧ decode 0b1011111111111111 = .decay 4095 ∧
  decode 0b1100000000110010 = .release 50 ∧ decode 0b0100000000000101 = .rsvNote 1 0 0 0 5 ∧
  decode 0b1101000000000000 = .rsvD 0

/-! ### What each word does: its whole next state -/

/-- 41_note.md R114 (R111 and R113 by decisions D8, D10, D20): `NOTE n, d, p` completes in every state, with this next
state. -/
def Obligations.NoteResult : Prop :=
  ∀ (s : State) (d p : DurCode) (n : BitVec 7), n ≠ 0 →
    exec (.note d p n) s = .next (s.setVoice s.active { s.voice s.active with
      cur := (s.voice s.active).cur + 1
      freq := s.cfg.noteFreq[n.toNat - 1]
      age := 0
      relMark := ((s.voice s.active).ticks[p.toNat]).setWidth 32
      released := decide ((s.voice s.active).ticks[p.toNat] ≠ 0)
      countdown := BitVec.ofNat 32
        (((s.voice s.active).ticks[p.toNat].toNat + (s.voice s.active).ticks[d.toNat].toNat) * s.speed.toNat) })

/-- 41_note.md R115 (R112 and R113 by decisions D8, D9): `REST d, p` completes in every state, with this next state. -/
def Obligations.RestResult : Prop :=
  ∀ (s : State) (d p : DurCode),
    exec (.rest d p) s = .next (s.setVoice s.active { s.voice s.active with
      cur := (s.voice s.active).cur + 1
      relMark := (s.voice s.active).age
      released := if s.cfg.releaseSentinelCompat = true then decide ((s.voice s.active).age ≠ 0) else true
      countdown := BitVec.ofNat 32
        (((s.voice s.active).ticks[p.toNat].toNat + (s.voice s.active).ticks[d.toNat].toNat) * s.speed.toNat) })

/-- 42_effects.md R121: `PAUSE t` is the word `0x8100 | t`; it completes in every state and writes only the countdown,
`t * E.speed`, and the cursor. -/
def Obligations.PauseResult : Prop :=
  ∀ (s : State) (t : Byte),
    decode (BitVec.ofNat 16 (0x8100 + t.toNat)) = .pause t ∧
    exec (.pause t) s = .next (s.setVoice s.active { s.voice s.active with
      cur := (s.voice s.active).cur + 1
      countdown := BitVec.ofNat 32 (t.toNat * s.speed.toNat) }) ∧
    (BitVec.ofNat 32 (t.toNat * s.speed.toNat)).toNat = t.toNat * s.speed.toNat

/-- 42_effects.md R122 (out of range by decision D26; the record by D38, D40): `JUMP p` completes in every state; in
range it sets the program counter to word 0 of pattern `p`, out of range it reports and goes on with the next word. -/
def Obligations.JumpResult : Prop :=
  ∀ (s : State) (p : Byte),
    exec (.jump p) s = .next (
      if p.toNat < s.mem.nPat then s.setVoice s.active { s.voice s.active with pat := p, cur := 0 }
      else { s.setVoice s.active { s.voice s.active with cur := (s.voice s.active).cur + 1 } with
        diag := s.diag ++ [⟨.patternIndexRange, s.active, BitVec.ofNat 16 (0x8200 + p.toNat), s.tickCounter⟩] })

/-- 42_effects.md R123 (out of range by decision D27; the record by D38, D40): `INSTR k` completes in every state; in
range it selects instrument `k`, out of range it reports and selects nothing. -/
def Obligations.InstrResult : Prop :=
  ∀ (s : State) (k : Byte),
    exec (.instr k) s = .next (
      if k.toNat < s.cfg.instruments.length then
        s.setVoice s.active { s.voice s.active with cur := (s.voice s.active).cur + 1, instr := some k }
      else { s.setVoice s.active { s.voice s.active with cur := (s.voice s.active).cur + 1 } with
        diag := s.diag ++ [⟨.instrumentIndexRange, s.active, BitVec.ofNat 16 (0x8300 + k.toNat), s.tickCounter⟩] })

/-- 42_effects.md R124, R125 (decision D13): `ALEVEL l` and `SLEVEL l` complete in every state and store the level,
clamped to 100 under `LEVEL_CLAMP`. -/
def Obligations.LevelResults : Prop :=
  ∀ (s : State) (l : Byte),
    exec (.alevel l) s = .next (s.setVoice s.active { s.voice s.active with
      cur := (s.voice s.active).cur + 1
      atkLevel := if s.cfg.levelClamp = true then BitVec.ofNat 8 (min l.toNat 100) else l }) ∧
    exec (.slevel l) s = .next (s.setVoice s.active { s.voice s.active with
      cur := (s.voice s.active).cur + 1
      susLevel := if s.cfg.levelClamp = true then BitVec.ofNat 8 (min l.toNat 100) else l })

/-- 42_effects.md R126: `SPEED s` completes in every state and writes the engine's speed and the cursor only. -/
def Obligations.SpeedResult : Prop :=
  ∀ (s : State) (m : Byte),
    exec (.speed m) s = .next { s.setVoice s.active { s.voice s.active with cur := (s.voice s.active).cur + 1 } with
      speed := m }

/-- 42_effects.md R127 (decision D25; the record by D38, D40): an invalid effect completes in every state; it is
reported and otherwise skipped. -/
def Obligations.InvalidEffectResult : Prop :=
  ∀ (s : State) (e : BitVec 4) (a : Byte), e = 0 ∨ 7 ≤ e.toNat →
    exec (.effectInvalid e a) s =
      .next { s.setVoice s.active { s.voice s.active with cur := (s.voice s.active).cur + 1 } with
        diag := s.diag ++
          [⟨.invalidEffect, s.active, BitVec.ofNat 16 (0x8000 + e.toNat * 2 ^ 8 + a.toNat), s.tickCounter⟩] }

/-- 43_timing_words.md R141 (index 8..15 by decision D28; the record by D38, D40): `TICK i, x` completes in every state;
for `i < 8` it writes entry `i` of its voice's table and no other entry, else it reports and writes no entry. -/
def Obligations.TickResult : Prop :=
  ∀ (s : State) (i : BitVec 4) (x : Byte),
    (i.toNat < 8 → ∃ ticks : Vector Byte 8,
      exec (.tick i x) s = .next (s.setVoice s.active { s.voice s.active with
        cur := (s.voice s.active).cur + 1
        ticks := ticks }) ∧
      ∀ j (h : j < 8), ticks[j] = if j = i.toNat then x else (s.voice s.active).ticks[j]) ∧
    (8 ≤ i.toNat →
      exec (.tick i x) s =
        .next { s.setVoice s.active { s.voice s.active with cur := (s.voice s.active).cur + 1 } with
          diag := s.diag ++
            [⟨.tickIndexRange, s.active, BitVec.ofNat 16 (0x9000 + i.toNat * 2 ^ 8 + x.toNat), s.tickCounter⟩] })

/-- 43_timing_words.md R142, R144: `ATTACK k` is the word `0xA000 | k` and `RELEASE k` the word `0xC000 | k`; each
completes in every state and writes its time, `MS_TO_SAMPLES(k)`, and the cursor only. That the time is exact when
`MS_TO_SAMPLES` is admitted rests on R140 (decision D15) and on log 9's reading of it; that the low 32 bits are kept
otherwise is the model's choice (log 9). At `k = 0` under a table whose entry 0 is nonzero the times follow the pseudocode
and not the rules' corner cases, by the model's choice (log 16). -/
def Obligations.AttackReleaseResults : Prop :=
  ∀ (s : State) (k : Imm12),
    decode (BitVec.ofNat 16 (0xA000 + k.toNat)) = .attack k ∧
    exec (.attack k) s = .next (s.setVoice s.active { s.voice s.active with
      cur := (s.voice s.active).cur + 1
      atkTime := BitVec.ofNat 32 (msToSamples s.cfg k) }) ∧
    decode (BitVec.ofNat 16 (0xC000 + k.toNat)) = .release k ∧
    exec (.release k) s = .next (s.setVoice s.active { s.voice s.active with
      cur := (s.voice s.active).cur + 1
      relTime := BitVec.ofNat 32 (msToSamples s.cfg k) }) ∧
    (msScaleAdmitted s.cfg = true → (BitVec.ofNat 32 (msToSamples s.cfg k)).toNat = msToSamples s.cfg k)

/-- 43_timing_words.md R143 (decision D16): `DECAY k` completes in every state and stores the attack time of now plus
`MS_TO_SAMPLES(k)`. That the sum is exact when `MS_TO_SAMPLES` is admitted and the attack time is one `ATTACK` can write
rests on R140 (decision D15) and on log 9's reading of it; that the sum is kept modulo 2^32 otherwise is the model's
choice (log 9). At `k = 0` under a table whose entry 0 is nonzero the sum follows the pseudocode and not R143's corner
case, by the model's choice (log 16). -/
def Obligations.DecayResult : Prop :=
  ∀ (s : State) (k : Imm12), ∃ t, exec (.decay k) s = .next (s.setVoice s.active { s.voice s.active with
      cur := (s.voice s.active).cur + 1
      decTime := t }) ∧
    t = BitVec.ofNat 32 ((s.voice s.active).atkTime.toNat + msToSamples s.cfg k) ∧
    (msScaleAdmitted s.cfg = true → (s.voice s.active).atkTime.toNat < 2 ^ 31 →
      t.toNat = (s.voice s.active).atkTime.toNat + msToSamples s.cfg k)

/-- 40_sequencer_step.md R104, 60_exceptions.md R205 (decisions D29, D30): under `Refuse` a reserved word completes by
taking the fault ReservedWord: it writes the fault record and nothing else, the cursor not being advanced (log 7);
a fault already recorded stays. -/
def Obligations.ReservedWordRefused : Prop :=
  ∀ (i : Instr) (s : State), i.isReserved = true → s.cfg.reservedPolicy = .refuse →
    exec i s = .next { s with faultKind := some (s.faultKind.getD .reservedWord) }

/-- 40_sequencer_step.md R104, 30_encoding.md R84 (decision D29): under `AsNote` a reserved word completes as the note or
rest with `d = w[13:11]`, `p = w[9:7]`, `n = w[6:0]` of its word. -/
def Obligations.ReservedWordAsNote : Prop :=
  ∀ (w : Word) (s : State), isReservedWord w = true → s.cfg.reservedPolicy = .asNote →
    ∃ t, exec (decode w) s = .next t ∧
      exec (if w.toNat % 2 ^ 7 = 0 then .rest (BitVec.ofNat 3 (w.toNat / 2 ^ 11)) (BitVec.ofNat 3 (w.toNat / 2 ^ 7))
        else .note (BitVec.ofNat 3 (w.toNat / 2 ^ 11)) (BitVec.ofNat 3 (w.toNat / 2 ^ 7)) (BitVec.ofNat 7 w.toNat)) s =
      .next t

/-! ### Frames and rules over all words -/

/-- 10_state.md R49: a word writes, of its voice's fields, only those the table gives it. -/
def Obligations.WordWritesOnlyItsFields : Prop :=
  ∀ (i : Instr) (s t : State) (f : VoiceField), exec i s = .next t → f ∉ writtenFields i →
    f.Same (s.voice s.active) (t.voice s.active)

/-- 40_sequencer_step.md R100, 20_memory.md R56: no word touches the other voice, any memory or any engine field but the
speed (which only SPEED writes), the diagnostic stream and, for a reserved word, the fault record. -/
def Obligations.WordFrameOutsideItsVoice : Prop :=
  ∀ (i : Instr) (s t : State), exec i s = .next t →
    t.voice (other s.active) = s.voice (other s.active) ∧ MemoryUnchanged s t ∧ EngineUnchanged s t ∧
    ((∀ m, i ≠ .speed m) → t.speed = s.speed) ∧
    (reports s i = false → t.diag = s.diag) ∧
    (i.isReserved = false → t.faultKind = s.faultKind)

/-- 40_sequencer_step.md R109: an invalid effect and an out-of-range JUMP, INSTR or TICK argument are reported, by
exactly one record of the voice, the word and the tick counter, and the word completes without a fault. -/
def Obligations.ErrorsAreReportedAndComplete : Prop :=
  ∀ (i : Instr) (s : State), i.wf = true → reports s i = true →
    ∃ t k, exec i s = .next t ∧ t.faultKind = s.faultKind ∧
      t.diag = s.diag ++ [⟨k, s.active, encode i, s.tickCounter⟩] ∧
      (k.code = 1 ↔ ∃ e a, i = .effectInvalid e a) ∧ (k.code = 2 ↔ ∃ p, i = .jump p) ∧
      (k.code = 3 ↔ ∃ n, i = .instr n) ∧ (k.code = 4 ↔ ∃ n x, i = .tick n x)

/-- 60_exceptions.md R203: no timing or level value is malformed enough for a report or a fault; each of these words
completes with neither. -/
def Obligations.MalformedTimingNotReported : Prop :=
  ∀ (i : Instr) (s : State),
    (∃ k, i = .attack k) ∨ (∃ k, i = .decay k) ∨ (∃ k, i = .release k) ∨ (∃ l, i = .alevel l) ∨ (∃ l, i = .slevel l) →
    ∃ t, exec i s = .next t ∧ t.diag = s.diag ∧ t.faultKind = s.faultKind

/-- 10_state.md R37: the cursor goes to the next word; only a JUMP in range changes the pattern, and it sets the cursor
to 0; a reserved word under `Refuse` leaves both (decision D30, log 7). -/
def Obligations.ProgramCounterAfterWord : Prop :=
  ∀ (i : Instr) (s t : State), exec i s = .next t →
    (∀ p, i = .jump p → p.toNat < s.mem.nPat → (t.voice s.active).pat = p ∧ (t.voice s.active).cur = 0) ∧
    ((∀ p, i = .jump p → s.mem.nPat ≤ p.toNat) → (t.voice s.active).pat = (s.voice s.active).pat) ∧
    ((∀ p, i = .jump p → s.mem.nPat ≤ p.toNat) → i.isReserved = false ∨ s.cfg.reservedPolicy = .asNote →
      (t.voice s.active).cur = (s.voice s.active).cur + 1) ∧
    (i.isReserved = true → s.cfg.reservedPolicy = .refuse → (t.voice s.active).cur = (s.voice s.active).cur)

/-- 10_state.md R35: the countdowns of notes, rests and pauses are exact, the largest being 130050. -/
def Obligations.CountdownsAreExact : Prop :=
  ∀ (pt nt speed : Byte),
    (noteCountdown pt nt speed).toNat = (pt.toNat + nt.toNat) * speed.toNat ∧
    (noteCountdown pt nt speed).toNat ≤ 130050 ∧
    (pauseCountdown pt speed).toNat = pt.toNat * speed.toNat ∧ (pauseCountdown pt speed).toNat ≤ 65025

/-! ### The step -/

/-- 40_sequencer_step.md R107, 46_tick_loop.md R185: when a strobe is next and is executed, and voice 0 is due, the step
is `exec` of the instruction that the word at voice 0's program counter decodes to, then the rest of the invocation;
when only voice 1 is due, it is voice 0's decrement, then `exec` of voice 1's instruction. That an empty schedule is a
strobe is the model's choice (log 2). -/
def Obligations.StepRunsFetchedWord : Prop :=
  ∀ (s s' : State) (w : Word) (i : Instr),
    (s.schedule = [] ∧ s' = s ∨ s.schedule = .strobe :: s'.schedule ∧ s' = { s with schedule := s'.schedule }) →
    s.Runs → decode w = i →
    (s.voice0.countdown = 0 → s.mem.patRead s.voice0.pat.toNat s.voice0.cur.toNat = some w →
      step s = andThen (exec i { s' with active := .v0 }) fun t => restOfInvocation { t with active := s.active }) ∧
    (s.voice0.countdown ≠ 0 → s.voice1.countdown = 0 →
      s.mem.patRead s.voice1.pat.toNat s.voice1.cur.toNat = some w →
      step s = andThen (exec i { s'.decrement .v0 with active := .v1 }) fun t =>
        let b : State := { t with active := s.active }
        if b.faulted then .next b else .next (b.decrement .v1).synthesize)

/-- The host's fetch hook (log 11): from every state the step after `withFetchWord` runs exactly the instruction of the
word given, and no other. -/
def Obligations.FetchWordRunsExactly : Prop :=
  ∀ (s : State) (nbits w : Nat),
    step (s.withFetchWord nbits w) =
      andThen (exec (decode (tableWord nbits w)) { s.withFetchWord nbits w with schedule := s.schedule, active := .v0 })
        fun t =>
          let b : State := { t with active := s.active }
          if b.faulted then .next b else .next ((b.decrement .v0).decrement .v1).synthesize

/-- 46_tick_loop.md R186 (decisions D22, D35): a strobe before any song is loaded takes the fault NoSong and writes
nothing else; a strobe while a sample waits changes nothing. -/
def Obligations.EntryConditions : Prop :=
  ∀ (s : State) (rest : List Event), s.schedule = .strobe :: rest → s.faultKind = none →
    (s.songLoaded = false → step s = .next { s with schedule := rest, faultKind := some .noSong }) ∧
    (s.songLoaded = true → s.ready = true → step s = .next { s with schedule := rest })

/-- 40_sequencer_step.md R102, 46_tick_loop.md R196 (decision D30): a due voice 0 whose cursor is at or past its
pattern's end takes CursorOverrun and nothing else is written; for a due voice 1, voice 0's decrement made earlier in the
invocation stays. -/
def Obligations.CursorOverrunStopsInvocation : Prop :=
  ∀ (s : State) (rest : List Event), s.schedule = .strobe :: rest → s.Runs →
    (s.voice0.countdown = 0 → s.mem.patLen s.voice0.pat.toNat ≤ s.voice0.cur.toNat →
      step s = .next { s with schedule := rest, faultKind := some .cursorOverrun }) ∧
    (s.voice0.countdown ≠ 0 → s.voice1.countdown = 0 → s.mem.patLen s.voice1.pat.toNat ≤ s.voice1.cur.toNat →
      step s = .next { s with
        schedule := rest
        voice0 := { s.voice0 with countdown := s.voice0.countdown - 1 }
        faultKind := some .cursorOverrun })

/-- 46_tick_loop.md R187, R189 to R192 (decisions D21, D22, D24): an executed invocation in which no voice is due counts
both voices down, takes one sample of each, mixes and clamps them, sets `ready` and advances the tick counter, and
writes nothing else. -/
def Obligations.InvocationWithoutDecode : Prop :=
  ∀ (s : State) (rest : List Event), s.schedule = .strobe :: rest → s.Runs →
    s.voice0.countdown ≠ 0 → s.voice1.countdown ≠ 0 →
    step s = .next { s with
      schedule := rest
      voice0 := oscVoice s.cfg { s.voice0 with countdown := s.voice0.countdown - 1 }
      voice1 := oscVoice s.cfg { s.voice1 with countdown := s.voice1.countdown - 1 }
      outSample := min (max (oscSample s.cfg s.voice0 + oscSample s.cfg s.voice1 + s.cfg.outBias) s.cfg.outMin)
        s.cfg.outMax
      ready := true
      tickCounter := s.tickCounter + 1 }

/-- 46_tick_loop.md R196 (decision D30): the machine stops with a fault exactly when a strobe comes and a model fault is
recorded, and with that fault. That an empty schedule is a strobe is the model's choice (log 2). -/
def Obligations.FaultsExactlyWhenFaulted : Prop :=
  ∀ (s : State) (k : Fault), step s = .fault k ↔ s.StrobeNext ∧ s.faultKind = some k

/-- 20_memory.md R52, R54 (decisions D29, D42; log 14): the machine refuses exactly a construction or a `loadSong` with a
configuration that is not admitted, and a `loadSong` of a song that is not well formed; no word is ever refused. -/
def Obligations.RefusesOnlyIllFormed : Prop :=
  ∀ (s : State) (r : Refusal), step s = .refused r ↔
    (∃ m sp rest, s.schedule = .loadSong m sp :: rest ∧ configAdmitted s.cfg = true ∧ songAdmitted s.cfg m sp = false ∧
      r = .songNotWellFormed) ∨
    (∃ m sp rest, s.schedule = .loadSong m sp :: rest ∧ configAdmitted s.cfg = false ∧ r = .configNotAdmitted) ∨
    (∃ rest, s.schedule = .construct :: rest ∧ configAdmitted s.cfg = false ∧ r = .configNotAdmitted)

/-- 46_tick_loop.md R188, 70_reset_and_hazards.md R242 (voice order by decision D23): a SPEED of voice 0 is seen by the
countdown voice 1 computes in the same invocation; a SPEED of voice 1 is not seen by the one voice 0 computed. -/
def Obligations.SpeedSeenBySecondVoiceOnly : Prop :=
  ∀ (s : State) (rest : List Event) (w0 w1 : Word) (m t : Byte), s.schedule = .strobe :: rest → s.Runs →
    s.voice0.countdown = 0 → s.voice1.countdown = 0 → s.fetch .v0 = some w0 → s.fetch .v1 = some w1 →
    (decode w0 = .speed m → decode w1 = .pause t → ∃ u, step s = .next u ∧ u.speed = m ∧
      u.voice1.countdown.toNat = t.toNat * m.toNat - 1) ∧
    (decode w0 = .pause t → decode w1 = .speed m → ∃ u, step s = .next u ∧ u.speed = m ∧
      u.voice0.countdown.toNat = t.toNat * s.speed.toNat - 1)

/-- 41_note.md R116, 90_conflicts.md C6: while both voices count down, `n` invocations decode nothing: they take `n` from
each countdown, add `n` to the tick counter and leave both program counters. -/
def Obligations.WaitingVoicesDecodeNothing : Prop :=
  ∀ (n : Nat) (s : State), s.schedule = strobes n → s.Runs → n ≤ s.voice0.countdown.toNat →
    n ≤ s.voice1.countdown.toNat →
    ∃ t, Host.Core.run Sys2Proof.core (2 * n) s = .next t ∧ t.Runs ∧ t.schedule = [] ∧
      t.voice0.countdown.toNat = s.voice0.countdown.toNat - n ∧
      t.voice1.countdown.toNat = s.voice1.countdown.toNat - n ∧
      SamePlace s.voice0 t.voice0 ∧ SamePlace s.voice1 t.voice1 ∧ t.mem = s.mem ∧ t.speed = s.speed ∧
      t.diag = s.diag ∧ t.tickCounter = s.tickCounter + BitVec.ofNat 32 n

/-- 41_note.md R116: a NOTE that sets the countdown `N ≥ 1` occupies exactly `N` invocations: after them the voice stands
at the next word with countdown 0, having decoded nothing else. -/
def Obligations.NoteOccupiesItsTicks : Prop :=
  ∀ (n : Nat) (s : State) (w : Word) (d p : DurCode) (k : BitVec 7),
    n = (s.voice0.ticks[p.toNat].toNat + s.voice0.ticks[d.toNat].toNat) * s.speed.toNat → 1 ≤ n →
    s.schedule = strobes n → s.Runs → s.voice0.countdown = 0 → s.fetch .v0 = some w → decode w = .note d p k →
    n ≤ s.voice1.countdown.toNat →
    ∃ t, Host.Core.run Sys2Proof.core (2 * n) s = .next t ∧ t.Runs ∧ t.voice0.countdown = 0 ∧
      t.voice0.pat = s.voice0.pat ∧ t.voice0.cur = s.voice0.cur + 1 ∧ t.voice0.freq = noteFreq s.cfg k ∧
      t.tickCounter = s.tickCounter + BitVec.ofNat 32 n

/-! ### The envelope -/

/-- 44_envelope.md R159 (decisions D9, D11, D12): the envelope, by its phases, is the formula written out in full. -/
def Obligations.EnvelopeFormula : Prop :=
  ∀ v : Voice, envPct v = envPctWritten v

/-- 44_envelope.md R157: the percentage never exceeds the larger level, nor 100 when both levels are at most 100. -/
def Obligations.EnvelopeInRange : Prop :=
  ∀ v : Voice, envPct v ≤ max v.atkLevel.toNat v.susLevel.toNat ∧
    (v.atkLevel.toNat ≤ 100 → v.susLevel.toNat ≤ 100 → envPct v ≤ 100)

/-- 44_envelope.md R158 (decision D12): with increasing age the percentage does not fall through Attack, moves from the
attack level toward the sustain level through Decay, is constant through Sustain, and does not rise through Release
and Silent. -/
def Obligations.EnvelopeMonotone : Prop :=
  ∀ (v : Voice) (a b : BitVec 32), a.toNat ≤ b.toNat →
    (envPhase { v with age := a } = .attack → envPhase { v with age := b } = .attack →
      envPct { v with age := a } ≤ envPct { v with age := b }) ∧
    (envPhase { v with age := a } = .decay → envPhase { v with age := b } = .decay →
      (v.susLevel.toNat ≤ v.atkLevel.toNat → envPct { v with age := b } ≤ envPct { v with age := a }) ∧
      (v.atkLevel.toNat ≤ v.susLevel.toNat → envPct { v with age := a } ≤ envPct { v with age := b })) ∧
    (envPhase { v with age := a } = .sustain → envPhase { v with age := b } = .sustain →
      envPct { v with age := a } = envPct { v with age := b }) ∧
    (v.released = true → envPct { v with age := b } ≤ envPct { v with age := a })

/-- 41_note.md R118, 44_envelope.md R155 (decisions D9, D11): a note-on with no pause ticks and an immediate note-off start
a release at age 0, from the sustain level to 0 at the release time. -/
def Obligations.ImmediateNoteOffReleases : Prop :=
  ∀ (c : Config) (v : Voice) (n : BitVec 7) (a : BitVec 32), c.releaseSentinelCompat = false →
    (noteOff c (noteOn c n 0 v)).released = true ∧ (noteOff c (noteOn c n 0 v)).relMark = 0 ∧
    (v.relTime.toNat ≤ a.toNat → envPct { noteOff c (noteOn c n 0 v) with age := a } = 0) ∧
    (v.relTime ≠ 0 → envPct (noteOff c (noteOn c n 0 v)) = v.susLevel.toNat)

/-! ### The oscillator and the mixer -/

/-- 45_oscillator.md R179 (decisions D12, D14, D17, D19, D46): the oscillator is the pseudocode written out in full. Where
the pseudocode says nothing, the statement holds by the model's choice: a sample rate of 0 divides to 0 (log 9), and an
instrument or sample out of range reads as an empty instrument or 0 (log 10). -/
def Obligations.OscillatorFormula : Prop :=
  ∀ (c : Config) (v : Voice), (oscVoice c v, oscSample c v) = oscWritten c v

/-- 45_oscillator.md R180 (decision D17): after `n` advances the phase is `(phase_0 + n * inc) mod P`, and two counts give
the same phase exactly when they differ by a multiple of `P / gcd(inc, P)`. A sample rate of 0 gives the increment 0 by
the model's choice (log 9). -/
def Obligations.PhasePeriod : Prop :=
  ∀ (c : Config) (v : Voice) (m n : Nat), oscRuns c v = true → v.phase < phaseMax c →
    ((oscVoice c)^[n] v).phase = (v.phase + n * phaseInc c v) % phaseMax c ∧
    (((oscVoice c)^[m] v).phase = ((oscVoice c)^[n] v).phase ↔
      m ≡ n [MOD phaseMax c / Nat.gcd (phaseInc c v) (phaseMax c)])

/-- 45_oscillator.md R180: at constant frequency the raw samples repeat with period `P / gcd(inc, P)`. A sample rate of 0
gives the increment 0, and an instrument or sample out of range an empty one or 0, by the model's choice (logs 9, 10). -/
def Obligations.RawSamplesRepeat : Prop :=
  ∀ (c : Config) (v : Voice) (n : Nat), oscRuns c v = true →
    rawSample c ((oscVoice c)^[n + 1 + phaseMax c / Nat.gcd (phaseInc c v) (phaseMax c)] v) =
      rawSample c ((oscVoice c)^[n + 1] v)

/-- 45_oscillator.md R172, R174: a phase in the ring gives a position in the table and a fraction below `P`. -/
def Obligations.TablePositionInRange : Prop :=
  ∀ (c : Config) (phase len : Nat), phase < phaseMax c → 1 ≤ len →
    tablePos c phase len < len ∧ phaseFrac c phase len < phaseMax c ∧
    phase * len = tablePos c phase len * phaseMax c + phaseFrac c phase len

/-- 45_oscillator.md R175 (decision D17): an interpolated sample lies between the two entries it blends, and equals the
direct one when the phase is exactly on an entry. -/
def Obligations.InterpolationBetweenEntries : Prop :=
  ∀ (c : Config) (k : Byte) (phase : Nat), phase < phaseMax c → 1 ≤ instrLen c k →
    min (instrRead c k (tablePos c phase (instrLen c k)))
        (instrRead c k ((tablePos c phase (instrLen c k) + 1) % instrLen c k)) ≤ interpSample c k phase ∧
    interpSample c k phase ≤
      max (instrRead c k (tablePos c phase (instrLen c k)))
        (instrRead c k ((tablePos c phase (instrLen c k) + 1) % instrLen c k)) ∧
    (phaseFrac c phase (instrLen c k) = 0 → interpSample c k phase = directSample c k phase)

/-- 45_oscillator.md R176 (decision D19): a voice with no instrument gives 0; its phase and age advance exactly under
`NO_INSTR_ADVANCES`. A sample rate of 0 gives the increment 0 by the model's choice (log 9). -/
def Obligations.NoInstrumentIsSilent : Prop :=
  ∀ (c : Config) (v : Voice), v.instr = none →
    oscSample c v = 0 ∧
    (c.noInstrAdvances = true → (oscVoice c v).phase = (v.phase + phaseInc c v) % phaseMax c ∧
      (oscVoice c v).age.toNat = min (v.age.toNat + 1) (2 ^ 32 - 1)) ∧
    (c.noInstrAdvances = false → oscVoice c v = v)

/-- 46_tick_loop.md R189, 45_oscillator.md R177 (decision D14): with an admitted configuration and levels at most 100, a
voice's sample lies in `[SAMPLE_MIN, SAMPLE_MAX]`. -/
def Obligations.SampleInRange : Prop :=
  ∀ (c : Config) (v : Voice), configAdmitted c = true → v.atkLevel.toNat ≤ 100 → v.susLevel.toNat ≤ 100 →
    (∀ k, v.instr = some k → k.toNat < c.instruments.length) →
    c.sampleMin ≤ oscSample c v ∧ oscSample c v ≤ c.sampleMax

/-- 46_tick_loop.md R190 (decision D21): the mixed output is in range, and is the biased sum wherever that is. -/
def Obligations.MixedOutputClamped : Prop :=
  ∀ (c : Config) (s0 s1 : Int), c.outMin ≤ c.outMax →
    c.outMin ≤ mix c s0 s1 ∧ mix c s0 s1 ≤ c.outMax ∧
    (c.outMin ≤ s0 + s1 + c.outBias → s0 + s1 + c.outBias ≤ c.outMax → mix c s0 s1 = s0 + s1 + c.outBias) ∧
    (s0 + s1 + c.outBias < c.outMin → mix c s0 s1 = c.outMin) ∧
    (c.outMax < s0 + s1 + c.outBias → mix c s0 s1 = c.outMax)

/-! ### Reset, loadSong, the consumer -/

/-- 70_reset_and_hazards.md R231, R232, 10_state.md R47 (decision D5; log 15): the fields after construction reset. The
output register is left out: it is unspecified (log 5). -/
def Obligations.ConstructionReset : Prop :=
  ∀ (c : Config),
    (∀ v, let x := (State.construct c).voice v
      x.freq = 0 ∧ x.instr = none ∧ x.atkTime = 0 ∧ x.decTime = 0 ∧ x.relTime = 0 ∧ x.atkLevel = 0 ∧ x.susLevel = 0 ∧
      x.phase = 0 ∧ x.age = 0 ∧ x.released = false ∧ x.relMark = 0 ∧ x.countdown = 0 ∧ x.ticks = c.defaultTicks ∧
      x.cur = 0) ∧
    (State.construct c).speed = c.initSpeed ∧ (State.construct c).tickCounter = 0 ∧
    (State.construct c).songLoaded = false ∧ (State.construct c).ready = false ∧
    (State.construct c).faultKind = none ∧ (State.construct c).diag = [] ∧
    State.reset = State.construct Config.shipped ∧ Config.shipped.initSpeed = 1

/-- 70_reset_and_hazards.md R231, 10_state.md R44: a construction event of an admitted configuration gives the state after
construction, with the same configuration, whatever was recorded before. The model's choices it states with that: the
events to come stay (log 2), the output register gets the same free value every time (log 5), the pattern index is 0
(log 6), the song is taken out and the start patterns are (0, 1) (log 13), and the fields have the values of decision D5
and not R232's free draws (log 15). -/
def Obligations.ConstructEvent : Prop :=
  ∀ (s : State) (rest : List Event), s.schedule = .construct :: rest → configAdmitted s.cfg = true →
    step s = .next { State.construct s.cfg with schedule := rest }

/-- 70_reset_and_hazards.md R233 (decisions D6, D7): `loadSong` of a well-formed song into a block whose configuration is
admitted (R236 item 1), with and without `LOADSONG_FULL_RESET`. -/
def Obligations.LoadSongResult : Prop :=
  ∀ (s : State) (rest : List Event) (m : Memory) (sp : StartPattern),
    s.schedule = .loadSong m sp :: rest → configAdmitted s.cfg = true → songAdmitted s.cfg m sp = true →
    (s.cfg.loadSongFullReset = true → step s = .next { s with
      schedule := rest
      mem := m
      startPattern := sp
      voice0 := { Voice.construct s.cfg with pat := sp.p0 }
      voice1 := { Voice.construct s.cfg with pat := sp.p1 }
      tickCounter := 0
      speed := s.cfg.initSpeed
      songLoaded := true }) ∧
    (s.cfg.loadSongFullReset = false → step s = .next { s with
      schedule := rest
      mem := m
      startPattern := sp
      voice0 := { s.voice0 with
        pat := sp.p0, cur := 0, countdown := 0, age := 0, released := false, relMark := 0, phase := 0 }
      voice1 := { s.voice1 with
        pat := sp.p1, cur := 0, countdown := 0, age := 0, released := false, relMark := 0, phase := 0 }
      tickCounter := 0
      songLoaded := true })

/-- 46_tick_loop.md R193: the consumer clears `ready` and writes nothing else, the output register least of all. R193
enables it only where `ready` is true; that it changes nothing where `ready` is false (log 2) and that it still acts on a
faulted block (log 7) are the model's choices. -/
def Obligations.ConsumerClearsReady : Prop :=
  ∀ (s : State) (rest : List Event), s.schedule = .consume :: rest →
    step s = .next { s with schedule := rest, ready := false }

/-! ### Invariants and rules over every step -/

/-- The invariant holds after reset, whatever the OPEN parameters are; so the configuration of `State.reset` is admitted
(20_memory.md R54, log 4). It rests on the model's choice of decision D5's values over R232's free draws (log 15). -/
def Obligations.InvariantAtReset : Prop := State.reset.Inv

/-- 10_state.md R21, R29, R31, R34, R35, R37, R43; 20_memory.md R52, R54; 43_timing_words.md R140: every step keeps
the invariant, from every state that meets it. -/
def Obligations.StepKeepsInvariant : Prop :=
  ∀ s t : State, s.Inv → step s = .next t → t.Inv

/-- 20_memory.md R52, 40_sequencer_step.md R104: "An admitted song never reaches this case": no step of a state that meets
the invariant records ReservedWord. Under `AsNote` an admitted song may hold a reserved word and run it as a note. -/
def Obligations.AdmittedSongNeverReserved : Prop :=
  ∀ s t : State, s.Inv → s.faultKind = none → step s = .next t → t.faultKind ≠ some .reservedWord

/-- 10_state.md R45, 20_memory.md R66, 70_reset_and_hazards.md R231: no step changes the configuration, and only `loadSong`
and construction change pattern memory. -/
def Obligations.ConfigAndSongFixed : Prop :=
  ∀ s t : State, step s = .next t → t.cfg = s.cfg ∧
    ((∀ m sp, s.schedule.head? ≠ some (.loadSong m sp)) → s.schedule.head? ≠ some .construct → t.mem = s.mem)

/-- 60_exceptions.md R201, R206 (decisions D38, D41): a step other than construction only appends to the diagnostic stream,
at most two records, voice 0's before voice 1's, all stamped with the tick counter the step began with. -/
def Obligations.ReportsAreAppended : Prop :=
  ∀ s t : State, step s = .next t → s.schedule.head? ≠ some .construct →
    ∃ l, t.diag = s.diag ++ l ∧ (l.map DiagRecord.voice).Sublist [.v0, .v1] ∧ ∀ r ∈ l, r.tick = s.tickCounter

/-- 10_state.md R41, R46: no rule of the block reads the tick counter or the diagnostic stream: two states that differ only
there answer alike, up to what they hold there. -/
def Obligations.CounterAndStreamUnread : Prop :=
  ∀ (s : State) (n : BitVec 32) (l : List DiagRecord),
    (∀ t, step s = .next t →
      ∃ n' l', step { s with tickCounter := n, diag := l } = .next { t with tickCounter := n', diag := l' }) ∧
    (∀ k, step s = .fault k → step { s with tickCounter := n, diag := l } = .fault k) ∧
    (∀ r, step s = .refused r → step { s with tickCounter := n, diag := l } = .refused r)

/-- 40_sequencer_step.md R100, 60_exceptions.md R215: a voice's sequencer phase neither reads nor writes the other voice. -/
def Obligations.VoicesSequenceApart : Prop :=
  ∀ (s t : State) (v : VoiceIdx) (x : Voice), seqPhase v s = .next t →
    t.voice (other v) = s.voice (other v) ∧
    seqPhase v (s.setVoice (other v) x) = .next (t.setVoice (other v) x)

/-- 46_tick_loop.md R185, R191, R192 (decisions D22, D24): a strobe answers a next state whenever no fault is recorded; it
either skips, or records a fault, or emits a sample and counts one tick, modulo 2^32. That an empty schedule is a strobe
is the model's choice (log 2). -/
def Obligations.StrobeOutcomes : Prop :=
  ∀ s : State, s.StrobeNext → s.faultKind = none →
    ∃ t, step s = .next t ∧
      ((s.songLoaded = true ∧ s.ready = true ∧ t = { s with schedule := s.schedule.tail }) ∨
       (t.faultKind ≠ none ∧ t.ready = s.ready ∧ t.outSample = s.outSample ∧ t.tickCounter = s.tickCounter) ∨
       (s.Runs ∧ t.faultKind = none ∧ t.ready = true ∧ t.tickCounter.toNat = (s.tickCounter.toNat + 1) % 2 ^ 32))
end

