-- ==== Sys2Proof/Laws/Encoding.lean ====
section
/-! SUPPORT. Bits of slices and of fields: what proofs about words are made from. -/

namespace Sys2Proof

theorem bits_getElem (w : Word) (lo len i : Nat) (h : i < len) : (bits w lo len)[i] = w.getLsbD (lo + i) := by
  simp [bits]

theorem bits_toNat (w : Word) (lo len : Nat) : (bits w lo len).toNat = w.toNat / 2 ^ lo % 2 ^ len := by
  simp [bits, Nat.shiftRight_eq_div_pow]

theorem field_getElem {n : Nat} (x : BitVec n) (lo i : Nat) (h : i < 16) :
    (field x lo)[i] = (!decide (i < lo) && x.getLsbD (i - lo)) := by
  simp [field]

theorem field_getLsbD {n : Nat} (x : BitVec n) (lo i : Nat) :
    (field x lo).getLsbD i = (decide (i < 16) && !decide (i < lo) && x.getLsbD (i - lo)) := by
  by_cases h : i < 16
  · simp [field_getElem, h]
  · simp only [h, decide_false, Bool.false_and]
    exact BitVec.getLsbD_of_ge _ _ (by omega)

end Sys2Proof
end

