-- ==== Sys2Proof/Laws/State.lean ====
section
/-! SUPPORT. What each update of State leaves alone, field by field, and what it writes. -/

namespace Sys2Proof.Machine

variable (s : State)

/-! ### `setVoice` -/

@[simp] theorem State.setVoice_cfg (v : VoiceIdx) (x : Voice) : (s.setVoice v x).cfg = s.cfg := rfl
@[simp] theorem State.setVoice_mem (v : VoiceIdx) (x : Voice) : (s.setVoice v x).mem = s.mem := rfl
@[simp] theorem State.setVoice_startPattern (v : VoiceIdx) (x : Voice) : (s.setVoice v x).startPattern = s.startPattern := rfl
@[simp] theorem State.setVoice_speed (v : VoiceIdx) (x : Voice) : (s.setVoice v x).speed = s.speed := rfl
@[simp] theorem State.setVoice_tickCounter (v : VoiceIdx) (x : Voice) : (s.setVoice v x).tickCounter = s.tickCounter := rfl
@[simp] theorem State.setVoice_songLoaded (v : VoiceIdx) (x : Voice) : (s.setVoice v x).songLoaded = s.songLoaded := rfl
@[simp] theorem State.setVoice_outSample (v : VoiceIdx) (x : Voice) : (s.setVoice v x).outSample = s.outSample := rfl
@[simp] theorem State.setVoice_ready (v : VoiceIdx) (x : Voice) : (s.setVoice v x).ready = s.ready := rfl
@[simp] theorem State.setVoice_faultKind (v : VoiceIdx) (x : Voice) : (s.setVoice v x).faultKind = s.faultKind := rfl
@[simp] theorem State.setVoice_diag (v : VoiceIdx) (x : Voice) : (s.setVoice v x).diag = s.diag := rfl
@[simp] theorem State.setVoice_active (v : VoiceIdx) (x : Voice) : (s.setVoice v x).active = s.active := rfl
@[simp] theorem State.setVoice_schedule (v : VoiceIdx) (x : Voice) : (s.setVoice v x).schedule = s.schedule := rfl

/-! ### `onActive` -/

@[simp] theorem State.onActive_cfg (f : Voice → Voice) : (s.onActive f).cfg = s.cfg := rfl
@[simp] theorem State.onActive_mem (f : Voice → Voice) : (s.onActive f).mem = s.mem := rfl
@[simp] theorem State.onActive_startPattern (f : Voice → Voice) : (s.onActive f).startPattern = s.startPattern := rfl
@[simp] theorem State.onActive_speed (f : Voice → Voice) : (s.onActive f).speed = s.speed := rfl
@[simp] theorem State.onActive_tickCounter (f : Voice → Voice) : (s.onActive f).tickCounter = s.tickCounter := rfl
@[simp] theorem State.onActive_songLoaded (f : Voice → Voice) : (s.onActive f).songLoaded = s.songLoaded := rfl
@[simp] theorem State.onActive_outSample (f : Voice → Voice) : (s.onActive f).outSample = s.outSample := rfl
@[simp] theorem State.onActive_ready (f : Voice → Voice) : (s.onActive f).ready = s.ready := rfl
@[simp] theorem State.onActive_faultKind (f : Voice → Voice) : (s.onActive f).faultKind = s.faultKind := rfl
@[simp] theorem State.onActive_diag (f : Voice → Voice) : (s.onActive f).diag = s.diag := rfl
@[simp] theorem State.onActive_active (f : Voice → Voice) : (s.onActive f).active = s.active := rfl
@[simp] theorem State.onActive_schedule (f : Voice → Voice) : (s.onActive f).schedule = s.schedule := rfl

/-! ### `advanceCursor` -/

@[simp] theorem State.advanceCursor_cfg : (s.advanceCursor).cfg = s.cfg := rfl
@[simp] theorem State.advanceCursor_mem : (s.advanceCursor).mem = s.mem := rfl
@[simp] theorem State.advanceCursor_startPattern : (s.advanceCursor).startPattern = s.startPattern := rfl
@[simp] theorem State.advanceCursor_speed : (s.advanceCursor).speed = s.speed := rfl
@[simp] theorem State.advanceCursor_tickCounter : (s.advanceCursor).tickCounter = s.tickCounter := rfl
@[simp] theorem State.advanceCursor_songLoaded : (s.advanceCursor).songLoaded = s.songLoaded := rfl
@[simp] theorem State.advanceCursor_outSample : (s.advanceCursor).outSample = s.outSample := rfl
@[simp] theorem State.advanceCursor_ready : (s.advanceCursor).ready = s.ready := rfl
@[simp] theorem State.advanceCursor_faultKind : (s.advanceCursor).faultKind = s.faultKind := rfl
@[simp] theorem State.advanceCursor_diag : (s.advanceCursor).diag = s.diag := rfl
@[simp] theorem State.advanceCursor_active : (s.advanceCursor).active = s.active := rfl
@[simp] theorem State.advanceCursor_schedule : (s.advanceCursor).schedule = s.schedule := rfl

/-! ### `raiseFault` -/

@[simp] theorem State.raiseFault_cfg (k : Fault) : (s.raiseFault k).cfg = s.cfg := rfl
@[simp] theorem State.raiseFault_mem (k : Fault) : (s.raiseFault k).mem = s.mem := rfl
@[simp] theorem State.raiseFault_startPattern (k : Fault) : (s.raiseFault k).startPattern = s.startPattern := rfl
@[simp] theorem State.raiseFault_voice0 (k : Fault) : (s.raiseFault k).voice0 = s.voice0 := rfl
@[simp] theorem State.raiseFault_voice1 (k : Fault) : (s.raiseFault k).voice1 = s.voice1 := rfl
@[simp] theorem State.raiseFault_speed (k : Fault) : (s.raiseFault k).speed = s.speed := rfl
@[simp] theorem State.raiseFault_tickCounter (k : Fault) : (s.raiseFault k).tickCounter = s.tickCounter := rfl
@[simp] theorem State.raiseFault_songLoaded (k : Fault) : (s.raiseFault k).songLoaded = s.songLoaded := rfl
@[simp] theorem State.raiseFault_outSample (k : Fault) : (s.raiseFault k).outSample = s.outSample := rfl
@[simp] theorem State.raiseFault_ready (k : Fault) : (s.raiseFault k).ready = s.ready := rfl
@[simp] theorem State.raiseFault_diag (k : Fault) : (s.raiseFault k).diag = s.diag := rfl
@[simp] theorem State.raiseFault_active (k : Fault) : (s.raiseFault k).active = s.active := rfl
@[simp] theorem State.raiseFault_schedule (k : Fault) : (s.raiseFault k).schedule = s.schedule := rfl

/-! ### `reportUnless` -/

@[simp] theorem State.reportUnless_cfg (ok : Bool) (k : DiagKind) (w : Word) : (s.reportUnless ok k w).cfg = s.cfg := rfl
@[simp] theorem State.reportUnless_mem (ok : Bool) (k : DiagKind) (w : Word) : (s.reportUnless ok k w).mem = s.mem := rfl
@[simp] theorem State.reportUnless_startPattern (ok : Bool) (k : DiagKind) (w : Word) : (s.reportUnless ok k w).startPattern = s.startPattern := rfl
@[simp] theorem State.reportUnless_voice0 (ok : Bool) (k : DiagKind) (w : Word) : (s.reportUnless ok k w).voice0 = s.voice0 := rfl
@[simp] theorem State.reportUnless_voice1 (ok : Bool) (k : DiagKind) (w : Word) : (s.reportUnless ok k w).voice1 = s.voice1 := rfl
@[simp] theorem State.reportUnless_speed (ok : Bool) (k : DiagKind) (w : Word) : (s.reportUnless ok k w).speed = s.speed := rfl
@[simp] theorem State.reportUnless_tickCounter (ok : Bool) (k : DiagKind) (w : Word) : (s.reportUnless ok k w).tickCounter = s.tickCounter := rfl
@[simp] theorem State.reportUnless_songLoaded (ok : Bool) (k : DiagKind) (w : Word) : (s.reportUnless ok k w).songLoaded = s.songLoaded := rfl
@[simp] theorem State.reportUnless_outSample (ok : Bool) (k : DiagKind) (w : Word) : (s.reportUnless ok k w).outSample = s.outSample := rfl
@[simp] theorem State.reportUnless_ready (ok : Bool) (k : DiagKind) (w : Word) : (s.reportUnless ok k w).ready = s.ready := rfl
@[simp] theorem State.reportUnless_faultKind (ok : Bool) (k : DiagKind) (w : Word) : (s.reportUnless ok k w).faultKind = s.faultKind := rfl
@[simp] theorem State.reportUnless_active (ok : Bool) (k : DiagKind) (w : Word) : (s.reportUnless ok k w).active = s.active := rfl
@[simp] theorem State.reportUnless_schedule (ok : Bool) (k : DiagKind) (w : Word) : (s.reportUnless ok k w).schedule = s.schedule := rfl

/-! ### `emit` -/

@[simp] theorem State.emit_cfg (y : Int) : (s.emit y).cfg = s.cfg := rfl
@[simp] theorem State.emit_mem (y : Int) : (s.emit y).mem = s.mem := rfl
@[simp] theorem State.emit_startPattern (y : Int) : (s.emit y).startPattern = s.startPattern := rfl
@[simp] theorem State.emit_voice0 (y : Int) : (s.emit y).voice0 = s.voice0 := rfl
@[simp] theorem State.emit_voice1 (y : Int) : (s.emit y).voice1 = s.voice1 := rfl
@[simp] theorem State.emit_speed (y : Int) : (s.emit y).speed = s.speed := rfl
@[simp] theorem State.emit_tickCounter (y : Int) : (s.emit y).tickCounter = s.tickCounter := rfl
@[simp] theorem State.emit_songLoaded (y : Int) : (s.emit y).songLoaded = s.songLoaded := rfl
@[simp] theorem State.emit_faultKind (y : Int) : (s.emit y).faultKind = s.faultKind := rfl
@[simp] theorem State.emit_diag (y : Int) : (s.emit y).diag = s.diag := rfl
@[simp] theorem State.emit_active (y : Int) : (s.emit y).active = s.active := rfl
@[simp] theorem State.emit_schedule (y : Int) : (s.emit y).schedule = s.schedule := rfl

/-! ### `clearReady` -/

@[simp] theorem State.clearReady_cfg : (s.clearReady).cfg = s.cfg := rfl
@[simp] theorem State.clearReady_mem : (s.clearReady).mem = s.mem := rfl
@[simp] theorem State.clearReady_startPattern : (s.clearReady).startPattern = s.startPattern := rfl
@[simp] theorem State.clearReady_voice0 : (s.clearReady).voice0 = s.voice0 := rfl
@[simp] theorem State.clearReady_voice1 : (s.clearReady).voice1 = s.voice1 := rfl
@[simp] theorem State.clearReady_speed : (s.clearReady).speed = s.speed := rfl
@[simp] theorem State.clearReady_tickCounter : (s.clearReady).tickCounter = s.tickCounter := rfl
@[simp] theorem State.clearReady_songLoaded : (s.clearReady).songLoaded = s.songLoaded := rfl
@[simp] theorem State.clearReady_outSample : (s.clearReady).outSample = s.outSample := rfl
@[simp] theorem State.clearReady_faultKind : (s.clearReady).faultKind = s.faultKind := rfl
@[simp] theorem State.clearReady_diag : (s.clearReady).diag = s.diag := rfl
@[simp] theorem State.clearReady_active : (s.clearReady).active = s.active := rfl
@[simp] theorem State.clearReady_schedule : (s.clearReady).schedule = s.schedule := rfl

/-! ### `decrement` -/

@[simp] theorem State.decrement_cfg (v : VoiceIdx) : (s.decrement v).cfg = s.cfg := rfl
@[simp] theorem State.decrement_mem (v : VoiceIdx) : (s.decrement v).mem = s.mem := rfl
@[simp] theorem State.decrement_startPattern (v : VoiceIdx) : (s.decrement v).startPattern = s.startPattern := rfl
@[simp] theorem State.decrement_speed (v : VoiceIdx) : (s.decrement v).speed = s.speed := rfl
@[simp] theorem State.decrement_tickCounter (v : VoiceIdx) : (s.decrement v).tickCounter = s.tickCounter := rfl
@[simp] theorem State.decrement_songLoaded (v : VoiceIdx) : (s.decrement v).songLoaded = s.songLoaded := rfl
@[simp] theorem State.decrement_outSample (v : VoiceIdx) : (s.decrement v).outSample = s.outSample := rfl
@[simp] theorem State.decrement_ready (v : VoiceIdx) : (s.decrement v).ready = s.ready := rfl
@[simp] theorem State.decrement_faultKind (v : VoiceIdx) : (s.decrement v).faultKind = s.faultKind := rfl
@[simp] theorem State.decrement_diag (v : VoiceIdx) : (s.decrement v).diag = s.diag := rfl
@[simp] theorem State.decrement_active (v : VoiceIdx) : (s.decrement v).active = s.active := rfl
@[simp] theorem State.decrement_schedule (v : VoiceIdx) : (s.decrement v).schedule = s.schedule := rfl

/-! ### `synthesize` -/

@[simp] theorem State.synthesize_cfg : (s.synthesize).cfg = s.cfg := rfl
@[simp] theorem State.synthesize_mem : (s.synthesize).mem = s.mem := rfl
@[simp] theorem State.synthesize_startPattern : (s.synthesize).startPattern = s.startPattern := rfl
@[simp] theorem State.synthesize_speed : (s.synthesize).speed = s.speed := rfl
@[simp] theorem State.synthesize_songLoaded : (s.synthesize).songLoaded = s.songLoaded := rfl
@[simp] theorem State.synthesize_faultKind : (s.synthesize).faultKind = s.faultKind := rfl
@[simp] theorem State.synthesize_diag : (s.synthesize).diag = s.diag := rfl
@[simp] theorem State.synthesize_active : (s.synthesize).active = s.active := rfl
@[simp] theorem State.synthesize_schedule : (s.synthesize).schedule = s.schedule := rfl

/-! ### `load` -/

@[simp] theorem State.load_cfg (m : Memory) (sp : StartPattern) : (s.load m sp).cfg = s.cfg := rfl
@[simp] theorem State.load_outSample (m : Memory) (sp : StartPattern) : (s.load m sp).outSample = s.outSample := rfl
@[simp] theorem State.load_ready (m : Memory) (sp : StartPattern) : (s.load m sp).ready = s.ready := rfl
@[simp] theorem State.load_faultKind (m : Memory) (sp : StartPattern) : (s.load m sp).faultKind = s.faultKind := rfl
@[simp] theorem State.load_diag (m : Memory) (sp : StartPattern) : (s.load m sp).diag = s.diag := rfl
@[simp] theorem State.load_active (m : Memory) (sp : StartPattern) : (s.load m sp).active = s.active := rfl
@[simp] theorem State.load_schedule (m : Memory) (sp : StartPattern) : (s.load m sp).schedule = s.schedule := rfl

/-! ### `withFetchWord` -/

@[simp] theorem State.withFetchWord_cfg (n w : Nat) : (s.withFetchWord n w).cfg = s.cfg := rfl
@[simp] theorem State.withFetchWord_startPattern (n w : Nat) : (s.withFetchWord n w).startPattern = s.startPattern := rfl
@[simp] theorem State.withFetchWord_speed (n w : Nat) : (s.withFetchWord n w).speed = s.speed := rfl
@[simp] theorem State.withFetchWord_tickCounter (n w : Nat) : (s.withFetchWord n w).tickCounter = s.tickCounter := rfl
@[simp] theorem State.withFetchWord_outSample (n w : Nat) : (s.withFetchWord n w).outSample = s.outSample := rfl
@[simp] theorem State.withFetchWord_diag (n w : Nat) : (s.withFetchWord n w).diag = s.diag := rfl
@[simp] theorem State.withFetchWord_active (n w : Nat) : (s.withFetchWord n w).active = s.active := rfl

/-! ### What is written -/

@[simp] theorem State.raiseFault_faultKind (k : Fault) :
    (s.raiseFault k).faultKind = s.faultKind.or (some k) := rfl

@[simp] theorem State.reportUnless_true (k : DiagKind) (w : Word) : s.reportUnless true k w = s := rfl

@[simp] theorem State.reportUnless_false_diag (k : DiagKind) (w : Word) :
    (s.reportUnless false k w).diag = s.diag ++ [⟨k, s.active, w, s.tickCounter⟩] := rfl

@[simp] theorem State.emit_outSample (y : Int) : (s.emit y).outSample = y := rfl

@[simp] theorem State.emit_ready (y : Int) : (s.emit y).ready = true := rfl

@[simp] theorem State.clearReady_ready : s.clearReady.ready = false := rfl

@[simp] theorem State.synthesize_ready : s.synthesize.ready = true := rfl

@[simp] theorem State.synthesize_tickCounter : s.synthesize.tickCounter = s.tickCounter + 1 := rfl

@[simp] theorem State.synthesize_outSample : s.synthesize.outSample =
    mix s.cfg (oscSample s.cfg s.voice0) (oscSample s.cfg s.voice1) := rfl

@[simp] theorem State.synthesize_voice0 : s.synthesize.voice0 = oscVoice s.cfg s.voice0 := rfl

@[simp] theorem State.synthesize_voice1 : s.synthesize.voice1 = oscVoice s.cfg s.voice1 := rfl

/-! ### Voices: a read after a write -/

@[simp] theorem State.voice_v0 : s.voice .v0 = s.voice0 := rfl

@[simp] theorem State.voice_v1 : s.voice .v1 = s.voice1 := rfl

@[simp] theorem State.setVoice_v0_voice0 (x : Voice) : (s.setVoice .v0 x).voice0 = x := rfl

@[simp] theorem State.setVoice_v0_voice1 (x : Voice) : (s.setVoice .v0 x).voice1 = s.voice1 := rfl

@[simp] theorem State.setVoice_v1_voice0 (x : Voice) : (s.setVoice .v1 x).voice0 = s.voice0 := rfl

@[simp] theorem State.setVoice_v1_voice1 (x : Voice) : (s.setVoice .v1 x).voice1 = x := rfl

@[simp] theorem State.setVoice_voice_same (v : VoiceIdx) (x : Voice) : (s.setVoice v x).voice v = x := by
  cases v <;> rfl

theorem State.setVoice_voice_other {v u : VoiceIdx} (h : u ≠ v) (x : Voice) :
    (s.setVoice v x).voice u = s.voice u := by
  cases v <;> cases u <;> first | rfl | exact absurd rfl h

@[simp] theorem State.setVoice_setVoice (v : VoiceIdx) (x y : Voice) :
    (s.setVoice v x).setVoice v y = s.setVoice v y := by
  cases v <;> rfl

@[simp] theorem State.setVoice_voice_self (v : VoiceIdx) : s.setVoice v (s.voice v) = s := by
  cases v <;> rfl

@[simp] theorem State.onActive_voice_active (f : Voice → Voice) :
    (s.onActive f).voice s.active = f (s.voice s.active) := s.setVoice_voice_same _ _

@[simp] theorem State.onActive_activeVoice (f : Voice → Voice) : (s.onActive f).activeVoice = f s.activeVoice :=
  s.setVoice_voice_same _ _

theorem State.onActive_voice_other (f : Voice → Voice) {u : VoiceIdx} (h : u ≠ s.active) :
    (s.onActive f).voice u = s.voice u := s.setVoice_voice_other h _

@[simp] theorem State.onActive_onActive (f g : Voice → Voice) :
    (s.onActive f).onActive g = s.onActive fun v => g (f v) := by
  simp only [State.onActive, State.setVoice_active, State.activeVoice, State.setVoice_voice_same,
    State.setVoice_setVoice]

theorem State.advanceCursor_onActive (f : Voice → Voice) :
    s.advanceCursor.onActive f = s.onActive fun v => f { v with cur := v.cur + 1 } := s.onActive_onActive _ _

@[simp] theorem State.reportUnless_voice (ok : Bool) (k : DiagKind) (w : Word) (v : VoiceIdx) :
    (s.reportUnless ok k w).voice v = s.voice v := by
  cases v <;> rfl

@[simp] theorem State.raiseFault_voice (k : Fault) (v : VoiceIdx) : (s.raiseFault k).voice v = s.voice v := by
  cases v <;> rfl

@[simp] theorem State.decrement_voice_same (v : VoiceIdx) :
    ((s.decrement v).voice v) = { s.voice v with
      countdown := if (s.voice v).countdown = 0 then 0 else (s.voice v).countdown - 1 } := s.setVoice_voice_same _ _

theorem State.decrement_voice_other {v u : VoiceIdx} (h : u ≠ v) : (s.decrement v).voice u = s.voice u :=
  s.setVoice_voice_other h _

end Sys2Proof.Machine
end

