-- ==== Sys2Proof/Laws/Exec.lean ====
section
/-! SUPPORT. What `exec` answers, one equation per instruction, and what the sequencing operations can do. -/

namespace Sys2Proof.Machine

variable (s : State)

@[simp] theorem andThen_next (f : State → Result) : andThen (.next s) f = f s := rfl

/-- A next state of `andThen` comes from a next state of each part. -/
theorem andThen_eq_next {r : Result} {f : State → Result} {t : State} (h : andThen r f = .next t) :
    ∃ u, r = .next u ∧ f u = .next t := by
  cases r with
  | next u => exact ⟨u, rfl, h⟩
  | fault k => cases h
  | refused k => cases h

@[simp] theorem exec_note (d p : DurCode) (n : BitVec 7) : exec (.note d p n) s = .next (noteClass d p n s) := rfl

@[simp] theorem exec_rest (d p : DurCode) : exec (.rest d p) s = .next (noteClass d p 0 s) := rfl

@[simp] theorem exec_rsvNote (b14 : BitVec 1) (d : DurCode) (b10 : BitVec 1) (p : DurCode) (n : BitVec 7) :
    exec (.rsvNote b14 d b10 p n) s = .next (reservedWord (encode (.rsvNote b14 d b10 p n)) s) := rfl

@[simp] theorem exec_rsvD (x : Imm12) : exec (.rsvD x) s = .next (reservedWord (encode (.rsvD x)) s) := rfl

@[simp] theorem exec_rsvE (x : Imm12) : exec (.rsvE x) s = .next (reservedWord (encode (.rsvE x)) s) := rfl

@[simp] theorem exec_rsvF (x : Imm12) : exec (.rsvF x) s = .next (reservedWord (encode (.rsvF x)) s) := rfl

@[simp] theorem exec_pause (t : Byte) : exec (.pause t) s =
    .next (s.advanceCursor.onActive fun v => { v with countdown := pauseCountdown t s.speed }) := rfl

@[simp] theorem exec_jump (p : Byte) : exec (.jump p) s = execJump p s := rfl

@[simp] theorem exec_instr (k : Byte) : exec (.instr k) s = execInstr k s := rfl

@[simp] theorem exec_alevel (l : Byte) : exec (.alevel l) s =
    .next (s.advanceCursor.onActive fun v => { v with atkLevel := storedLevel s.cfg l }) := rfl

@[simp] theorem exec_slevel (l : Byte) : exec (.slevel l) s =
    .next (s.advanceCursor.onActive fun v => { v with susLevel := storedLevel s.cfg l }) := rfl

@[simp] theorem exec_speed (m : Byte) : exec (.speed m) s = .next { s.advanceCursor with speed := m } := rfl

@[simp] theorem exec_effectInvalid (e : BitVec 4) (a : Byte) : exec (.effectInvalid e a) s =
    .next (s.advanceCursor.reportUnless false .invalidEffect (encode (.effectInvalid e a))) := rfl

@[simp] theorem exec_tick (i : BitVec 4) (x : Byte) : exec (.tick i x) s = execTick i x s := rfl

@[simp] theorem exec_attack (k : Imm12) : exec (.attack k) s =
    .next (s.advanceCursor.onActive fun v => { v with atkTime := BitVec.ofNat 32 (msToSamples s.cfg k) }) := rfl

@[simp] theorem exec_decay (k : Imm12) : exec (.decay k) s =
    .next (s.advanceCursor.onActive fun v =>
      { v with decTime := BitVec.ofNat 32 (v.atkTime.toNat + msToSamples s.cfg k) }) := rfl

@[simp] theorem exec_release (k : Imm12) : exec (.release k) s =
    .next (s.advanceCursor.onActive fun v => { v with relTime := BitVec.ofNat 32 (msToSamples s.cfg k) }) := rfl

/-- A step without a word to fetch records the overrun and writes nothing else. -/
theorem seqStep_overrun {v : VoiceIdx} (h : s.fetch v = none) : seqStep v s = .next (s.raiseFault .cursorOverrun) := by
  simp only [seqStep, h]

/-- A step with a word to fetch runs its instruction. -/
theorem seqStep_fetched {v : VoiceIdx} {w : Word} (h : s.fetch v = some w) : seqStep v s = execAs v (decode w) s := by
  simp only [seqStep, h]

/-- A voice that is not due only counts down. -/
theorem seqPhase_waiting {v : VoiceIdx} (h : (s.voice v).countdown ≠ 0) (hf : s.faultKind = none) :
    seqPhase v s = .next (s.decrement v) := by
  rw [seqPhase, if_neg h, andThen_next, State.faulted, hf]
  rfl

/-- A voice that is due steps, then counts down unless the step faulted. -/
theorem seqPhase_due {v : VoiceIdx} (h : (s.voice v).countdown = 0) :
    seqPhase v s = andThen (seqStep v s) fun t => if t.faulted then .next t else .next (t.decrement v) := by
  rw [seqPhase, if_pos h]

/-- Every word completes: no arm of `exec` stops. -/
theorem exec_completes (i : Instr) : ∃ t, exec i s = .next t := by
  cases i <;> exact ⟨_, rfl⟩

/-- A sequencer step always answers a next state. -/
theorem seqStep_completes (v : VoiceIdx) : ∃ t, seqStep v s = .next t := by
  unfold seqStep
  split
  · exact ⟨_, rfl⟩
  · rename_i w _
    obtain ⟨t, ht⟩ := exec_completes { s with active := v } (decode w)
    exact ⟨_, by rw [execAs, ht]; rfl⟩

/-- So does a sequencer phase. -/
theorem seqPhase_completes (v : VoiceIdx) : ∃ t, seqPhase v s = .next t := by
  by_cases h : (s.voice v).countdown = 0
  · obtain ⟨t, ht⟩ := seqStep_completes s v
    rw [seqPhase_due s h, ht, andThen_next]
    split <;> exact ⟨_, rfl⟩
  · rw [seqPhase, if_neg h, andThen_next]
    split <;> exact ⟨_, rfl⟩

/-- An executed invocation always answers a next state. -/
theorem runInvocation_completes : ∃ t, runInvocation s = .next t := by
  obtain ⟨a, ha⟩ := seqPhase_completes s .v0
  obtain ⟨b, hb⟩ := seqPhase_completes a .v1
  rw [runInvocation, ha, andThen_next]
  split
  · exact ⟨_, rfl⟩
  · rw [hb, andThen_next]
    split <;> exact ⟨_, rfl⟩

/-- An unfaulted block with a song and no waiting sample runs the invocation. -/
theorem tick_runs (hf : s.faultKind = none) (hl : s.songLoaded = true) (hr : s.ready = false) :
    tick s = runInvocation s := by
  simp only [tick, hf, hl, hr, if_true, Bool.false_eq_true, if_false]

/-- What a note-class word can write (10_state.md R49): the rest of its voice and of the state stays. -/
theorem noteClass_eq (d p : DurCode) (n : BitVec 7) : ∃ f a r m c,
    noteClass d p n s = s.setVoice s.active { s.voice s.active with
      cur := (s.voice s.active).cur + 1, freq := f, age := a, released := r, relMark := m, countdown := c } := by
  unfold noteClass
  rw [State.advanceCursor_onActive, State.onActive, noteVoice]
  split <;> exact ⟨_, _, _, _, _, rfl⟩

/-- A reserved word either records the fault or runs as a note-class word. -/
theorem reservedWord_cases (w : Word) :
    (s.cfg.reservedPolicy = .refuse ∧ reservedWord w s = s.raiseFault .reservedWord) ∨
    (s.cfg.reservedPolicy = .asNote ∧
      reservedWord w s = noteClass (asNoteDur w) (asNotePause w) (asNoteNumber w) s) := by
  unfold reservedWord
  cases s.cfg.reservedPolicy
  · exact .inl ⟨rfl, rfl⟩
  · exact .inr ⟨rfl, rfl⟩

end Sys2Proof.Machine
end

