-- ==== Sys2Proof/Laws/Memory.lean ====
section
/-! SUPPORT. Pattern memory: reading a placed word, and that every operation keeps its bounds. -/

namespace Sys2Proof.Machine

theorem placeAt_get {α : Type} (fill x : α) (i : Nat) (l : List α) : (placeAt fill i x l)[i]? = some x := by
  induction i generalizing l with
  | zero => cases l <;> rfl
  | succ i ih => cases l <;> simpa [placeAt] using ih _

theorem placeAt_get_other {α : Type} (fill x : α) {i j : Nat} (l : List α) (hj : j < l.length) (h : j ≠ i) :
    (placeAt fill i x l)[j]? = l[j]? := by
  induction i generalizing l j with
  | zero =>
    cases l with
    | nil => simp at hj
    | cons a t => cases j with
      | zero => exact absurd rfl h
      | succ j => rfl
  | succ i ih =>
    cases l with
    | nil => simp at hj
    | cons a t => cases j with
      | zero => rfl
      | succ j => simpa [placeAt] using ih t (by simpa using hj) (by omega)

/-- A placed word is read where it was placed. -/
theorem Memory.place_patRead (m : Memory) (p i : Nat) (w : Word) : (m.place p i w).patRead p i = some w := by
  simp only [Memory.patRead, Memory.place, List.getD_eq_getElem?_getD, placeAt_get, Option.getD_some]

/-- The fetch of `withFetchWord` is the word given to it. -/
theorem State.withFetchWord_fetch (s : State) (nbits w : Nat) :
    (s.withFetchWord nbits w).fetch .v0 = some (tableWord nbits w) :=
  Memory.place_patRead _ _ _ _

theorem Memory.patRead_lt {m : Memory} {p i : Nat} {w : Word} (h : m.patRead p i = some w) : i < m.patLen p := by
  simp only [Memory.patRead, Memory.patLen] at *
  exact (List.getElem?_eq_some_iff.mp h).1

theorem Memory.patRead_isSome_iff (m : Memory) (p i : Nat) : (m.patRead p i).isSome ↔ i < m.patLen p := by
  simp [Memory.patRead, Memory.patLen]

/-- The bounds of pattern memory, read off. -/
theorem Memory.wf_iff (m : Memory) :
    m.wf = true ↔ m.nPat ≤ 256 ∧ ∀ ws ∈ m.patterns, ws.length ≤ 65535 := by
  simp [Memory.wf]

theorem Memory.patLen_le_of_wf {m : Memory} (h : m.wf = true) (p : Nat) : m.patLen p ≤ 65535 := by
  obtain ⟨-, hall⟩ := (Memory.wf_iff m).mp h
  simp only [Memory.patLen, List.getD_eq_getElem?_getD]
  cases hp : m.patterns[p]? with
  | none => simp
  | some ws => simpa using hall ws (List.mem_of_getElem? hp)

/-- The memory of a block without a song is well formed. -/
theorem Memory.empty_wf : (⟨[]⟩ : Memory).wf = true := rfl

theorem construct_mem_wf (c : Config) : (State.construct c).mem.wf = true := rfl

/-- The memory `State.reset` has is well formed. -/
theorem reset_mem_wf : State.reset.mem.wf = true := rfl

/-- An admitted song is well formed: the one operation that changes pattern memory keeps the form. -/
theorem songAdmitted_wf {c : Config} {m : Memory} {sp : StartPattern} (h : songAdmitted c m sp = true) :
    m.wf = true := by
  simp only [songAdmitted, Bool.and_eq_true] at h
  exact h.1.1.1.1

/-- What admission says of a song (20_memory.md R52). -/
theorem songAdmitted_bounds {c : Config} {m : Memory} {sp : StartPattern} (h : songAdmitted c m sp = true) :
    1 ≤ m.nPat ∧ sp.p0.toNat < m.nPat ∧ sp.p1.toNat < m.nPat := by
  simp only [songAdmitted, Bool.and_eq_true, decide_eq_true_eq] at h
  exact ⟨h.1.1.1.2, h.1.1.2, h.1.2⟩

/-- Under `Refuse` an admitted song holds no reserved word (20_memory.md R52 item 4). -/
theorem songAdmitted_words {c : Config} {m : Memory} {sp : StartPattern} (h : songAdmitted c m sp = true)
    (hp : c.reservedPolicy = .refuse) {p i : Nat} {w : Word} (hw : m.patRead p i = some w) :
    isReservedWord w = false := by
  simp only [songAdmitted, Bool.and_eq_true, Bool.or_eq_true, hp, List.all_eq_true] at h
  have hall := h.2.resolve_left (by decide)
  simp only [Memory.patRead, List.getD_eq_getElem?_getD] at hw
  cases hq : m.patterns[p]? with
  | none => simp [hq] at hw
  | some ws =>
    rw [hq, Option.getD_some] at hw
    simpa using hall ws (List.mem_of_getElem? hq) w (List.mem_of_getElem? hw)

end Sys2Proof.Machine
end

