-- ==== Sys2Proof/Laws/PerInstr.lean ====
section
/-! SUPPORT. Families of statements about every instruction as syntax, one lemma per constructor. -/

namespace Sys2Proof

/-- The instructions of the note class: those with bit 15 clear (30_encoding.md R71). -/
def Instr.noteClassBit : Instr → BitVec 1
  | .note _ _ _ => 0
  | .rest _ _ => 0
  | .rsvNote _ _ _ _ _ => 0
  | .effectInvalid _ _ => 1
  | .pause _ => 1
  | .jump _ => 1
  | .instr _ => 1
  | .alevel _ => 1
  | .slevel _ => 1
  | .speed _ => 1
  | .tick _ _ => 1
  | .attack _ => 1
  | .decay _ => 1
  | .release _ => 1
  | .rsvD _ => 1
  | .rsvE _ => 1
  | .rsvF _ => 1

namespace Laws.NoteClass

/-- Bit 15 of an instruction's word is clear exactly for the note class. -/
def Statement (i : Instr) : Prop := bits (encode i) 15 1 = i.noteClassBit

theorem note (d p : DurCode) (n : BitVec 7) : Statement (.note d p n) := by
  unfold Statement
  ext i hi
  interval_cases i
  simp [encode, bits_getElem, field_getElem, Instr.noteClassBit]

theorem rest (d p : DurCode) : Statement (.rest d p) := by
  unfold Statement
  ext i hi
  interval_cases i
  simp [encode, bits_getElem, field_getElem, Instr.noteClassBit]

theorem rsvNote (b14 : BitVec 1) (d : DurCode) (b10 : BitVec 1) (p : DurCode) (n : BitVec 7) : Statement (.rsvNote b14 d b10 p n) := by
  unfold Statement
  ext i hi
  interval_cases i
  simp [encode, bits_getElem, field_getElem, Instr.noteClassBit]

theorem effectInvalid (e : BitVec 4) (a : Byte) : Statement (.effectInvalid e a) := by
  unfold Statement
  ext i hi
  interval_cases i
  simp [encode, bits_getElem, field_getElem, Instr.noteClassBit]

theorem pause (t : Byte) : Statement (.pause t) := by
  unfold Statement
  ext i hi
  interval_cases i
  simp [encode, bits_getElem, field_getElem, Instr.noteClassBit]

theorem jump (p : Byte) : Statement (.jump p) := by
  unfold Statement
  ext i hi
  interval_cases i
  simp [encode, bits_getElem, field_getElem, Instr.noteClassBit]

theorem instr (k : Byte) : Statement (.instr k) := by
  unfold Statement
  ext i hi
  interval_cases i
  simp [encode, bits_getElem, field_getElem, Instr.noteClassBit]

theorem alevel (l : Byte) : Statement (.alevel l) := by
  unfold Statement
  ext i hi
  interval_cases i
  simp [encode, bits_getElem, field_getElem, Instr.noteClassBit]

theorem slevel (l : Byte) : Statement (.slevel l) := by
  unfold Statement
  ext i hi
  interval_cases i
  simp [encode, bits_getElem, field_getElem, Instr.noteClassBit]

theorem speed (m : Byte) : Statement (.speed m) := by
  unfold Statement
  ext i hi
  interval_cases i
  simp [encode, bits_getElem, field_getElem, Instr.noteClassBit]

theorem tick (j : BitVec 4) (x : Byte) : Statement (.tick j x) := by
  unfold Statement
  ext i hi
  interval_cases i
  simp [encode, bits_getElem, field_getElem, Instr.noteClassBit]

theorem attack (k : Imm12) : Statement (.attack k) := by
  unfold Statement
  ext i hi
  interval_cases i
  simp [encode, bits_getElem, field_getElem, Instr.noteClassBit]

theorem decay (k : Imm12) : Statement (.decay k) := by
  unfold Statement
  ext i hi
  interval_cases i
  simp [encode, bits_getElem, field_getElem, Instr.noteClassBit]

theorem release (k : Imm12) : Statement (.release k) := by
  unfold Statement
  ext i hi
  interval_cases i
  simp [encode, bits_getElem, field_getElem, Instr.noteClassBit]

theorem rsvD (x : Imm12) : Statement (.rsvD x) := by
  unfold Statement
  ext i hi
  interval_cases i
  simp [encode, bits_getElem, field_getElem, Instr.noteClassBit]

theorem rsvE (x : Imm12) : Statement (.rsvE x) := by
  unfold Statement
  ext i hi
  interval_cases i
  simp [encode, bits_getElem, field_getElem, Instr.noteClassBit]

theorem rsvF (x : Imm12) : Statement (.rsvF x) := by
  unfold Statement
  ext i hi
  interval_cases i
  simp [encode, bits_getElem, field_getElem, Instr.noteClassBit]

end Laws.NoteClass

end Sys2Proof
end

