-- ==== Sys2Proof/Laws/Run.lean ====
section
/-! SUPPORT. Every step takes one event off the schedule; the end of a run unrolls by one step; the configuration of
reset is admitted. -/

namespace Sys2Proof.Machine

variable {s t : State}

/-- No word touches the schedule. -/
theorem exec_schedule {i : Instr} (h : exec i s = .next t) : t.schedule = s.schedule := by
  have hn : ∀ d p n, (noteClass d p n s).schedule = s.schedule := fun d p n => by
    obtain ⟨_, _, _, _, _, e⟩ := noteClass_eq s d p n
    rw [e, State.setVoice_schedule]
  have hr : ∀ w, (reservedWord w s).schedule = s.schedule := fun w => by
    obtain ⟨-, e⟩ | ⟨-, e⟩ := reservedWord_cases s w
    · rw [e, State.raiseFault_schedule]
    · rw [e, hn]
  cases i <;> cases h <;> first | rfl | exact hn _ _ _ | exact hr _

theorem seqStep_schedule {v : VoiceIdx} (h : seqStep v s = .next t) : t.schedule = s.schedule := by
  unfold seqStep at h
  split at h
  · cases h; rfl
  · obtain ⟨u, hu, hf⟩ := andThen_eq_next h
    have hu := exec_schedule hu
    cases hf
    exact hu

theorem seqPhase_schedule {v : VoiceIdx} (h : seqPhase v s = .next t) : t.schedule = s.schedule := by
  obtain ⟨u, hu, hf⟩ := andThen_eq_next h
  have hs : u.schedule = s.schedule := by
    split at hu
    · exact seqStep_schedule hu
    · cases hu; rfl
  split at hf <;> cases hf <;> exact hs

theorem runInvocation_schedule (h : runInvocation s = .next t) : t.schedule = s.schedule := by
  obtain ⟨a, ha, h⟩ := andThen_eq_next h
  have hs := seqPhase_schedule ha
  split at h
  · cases h; exact hs
  · obtain ⟨b, hb, h⟩ := andThen_eq_next h
    have hb := (seqPhase_schedule hb).trans hs
    split at h <;> cases h <;> exact hb

/-- An event leaves the events after it. -/
theorem applyEvent_schedule {e : Event} (h : applyEvent e s = .next t) : t.schedule = s.schedule := by
  cases e with
  | strobe =>
    simp only [applyEvent, tick] at h
    split at h
    · cases h
    · split at h
      · split at h
        · cases h; rfl
        · exact runInvocation_schedule h
      · cases h; rfl
  | consume => cases h; rfl
  | loadSong m sp =>
    simp only [applyEvent, loadSong] at h
    split at h
    · split at h <;> cases h; rfl
    · cases h
  | construct =>
    simp only [applyEvent, reconstruct] at h
    split at h <;> cases h; rfl

/-- A step takes the first event off the schedule and no other. -/
theorem step_schedule (h : step s = .next t) : t.schedule = s.schedule.tail := by
  unfold step nextEvent at h
  split at h
  · rename_i hs; rw [applyEvent_schedule h, hs]; rfl
  · rename_i hs; rw [applyEvent_schedule h, hs]; rfl

/-- What is left to do falls with every step. -/
theorem strobesLeft_lt {k : Nat} (hk : k ≠ 0) :
    s.strobesLeft k + s.schedule.tail.length < k + s.schedule.length := by
  unfold State.strobesLeft
  split <;> rename_i h <;> simp only [h, List.tail_nil, List.tail_cons, List.length_nil, List.length_cons] <;> omega

/-- Steps beyond those a run needs change nothing. -/
theorem runSteps_enough {n m k : Nat} (hn : k + s.schedule.length ≤ n) (hm : k + s.schedule.length ≤ m) :
    runSteps n k s = runSteps m k s := by
  induction n generalizing m k s with
  | zero =>
    obtain rfl : k = 0 := by omega
    cases m <;> simp [runSteps]
  | succ n ih =>
    cases m with
    | zero =>
      obtain rfl : k = 0 := by omega
      simp [runSteps]
    | succ m =>
      simp only [runSteps]
      split
      · rfl
      · rename_i hk
        have hlt := strobesLeft_lt (s := s) (k := k) (fun h => hk (.inl h))
        cases hs : step s with
        | next t =>
          have ht := step_schedule hs
          exact ih (by rw [ht]; omega) (by rw [ht]; omega)
        | fault _ => rfl
        | refused _ => rfl

/-- A run of no strobes is over. -/
theorem runEnd_zero (s : State) : runEnd 0 s = .next s := by
  unfold runEnd
  cases 0 + s.schedule.length <;> simp [runSteps]

/-- A run ends at the first model fault. -/
theorem runEnd_faulted (k : Nat) (h : s.faulted = true) : runEnd k s = .next s := by
  unfold runEnd
  cases k + s.schedule.length <;> simp [runSteps, h]

/-- A run that is not over is one step, then the run from there with the strobes that are left. -/
theorem runEnd_step {k : Nat} (hk : k ≠ 0) (h : s.faulted = false) :
    runEnd k s = andThen (step s) (runEnd (s.strobesLeft k)) := by
  have hlt := strobesLeft_lt (s := s) hk
  unfold runEnd
  obtain ⟨n, hn⟩ : ∃ n, k + s.schedule.length = n + 1 := ⟨k + s.schedule.length - 1, by omega⟩
  rw [hn, runSteps, if_neg (by simp [hk, h])]
  cases hs : step s with
  | next t =>
    have ht := step_schedule hs
    exact runSteps_enough (by rw [ht]; omega) le_rfl
  | fault _ => rfl
  | refused _ => rfl

/-- A free instrument is admitted with the default sample range: it has a sample, and its samples are 8-bit. -/
theorem instrumentOf_admitted (x : BitVec 8 × List (BitVec 8) × Bool) :
    (1 ≤ (Config.instrumentOf x).shape.length && (Config.instrumentOf x).shape.all fun y => -128 ≤ y && y ≤ 127) =
      true := by
  have hs : ∀ y : BitVec 8, -128 ≤ y.toInt ∧ y.toInt ≤ 127 := by
    intro y
    have := y.toInt_lt
    have := y.le_toInt
    omega
  simp [Config.instrumentOf, hs]

/-- A rate below the bound of `Config.openSampleRate` is admitted with the default scale (43_timing_words.md R140). -/
theorem msScaleAdmitted_default {c : Config} {n : Nat} (h : c.msScale = .perMillisecond)
    (hr : c.sampleRate = n + 1) (hn : n < 524416031) : msScaleAdmitted c = true := by
  simp only [msScaleAdmitted, h, hr, decide_eq_true_eq]
  omega

/-- The configuration of `State.reset` is admitted, whatever the OPEN parameters are. -/
theorem shipped_admitted : configAdmitted Config.shipped = true := by
  have hi : instrumentsAdmitted Config.shipped = true := by
    simp only [instrumentsAdmitted, Bool.and_eq_true, decide_eq_true_eq, List.all_eq_true]
    refine ⟨?_, fun ins h => ?_⟩
    · have := Config.openInstrumentCount.isLt
      change ((List.range _).map _).length ≤ 256
      rw [List.length_map, List.length_range]
      omega
    · obtain ⟨k, -, rfl⟩ := List.mem_map.mp h
      have := instrumentOf_admitted (Config.openInstrument k)
      simp only [Bool.and_eq_true, decide_eq_true_eq, List.all_eq_true] at this
      exact this
  have hm : msScaleAdmitted Config.shipped = true :=
    msScaleAdmitted_default rfl rfl Config.openSampleRate.isLt
  rw [configAdmitted, hi, hm]
  simp [Config.shipped]

end Sys2Proof.Machine
end

