-- ==== Sys2Proof/Tests/Slice0.lean ====
section
/-! SUPPORT. Tests of the model against the vectors of 95_test_vectors.md, and one witness per statement that has
hypotheses. Every expected value is one the spec writes out, or hand calculation from the rule named. -/

namespace Sys2Proof.Tests

open Sys2Proof.Machine Sys2Proof.Claims

/-! ### The test configuration (95_test_vectors.md §0) -/

/-- Instrument `I0`. -/
def sine : Instrument := ⟨[0, 64, 127, 64, 0, -64, -127, -64], true⟩

/-- Instrument `I1`. -/
def square : Instrument := ⟨[100, 100, -100, -100], false⟩

def cfg0 : Config :=
  { Config.shipped with
    sampleRate := 8000
    phaseBits := 16
    noteFreq := ⟨((List.range 127).map fun n => BitVec.ofNat 16 (100 * (n + 1))).toArray, by simp⟩
    instruments := [sine, square]
    defaultTicks := #v[0, 4, 8, 16, 32, 64, 128, 255]
    interpEnable := true }

/-- The song of 95_test_vectors.md §1.1. -/
def song0 : Memory := ⟨[[0x0805, 0x8200], [0x81FF, 0x8201]]⟩

/-- A started block with configuration `c` and song `m`, a strobe next. -/
def started (c : Config) (m : Memory) : State :=
  { State.construct c with
    mem := m
    voice1 := { Voice.construct c with pat := 1 }
    songLoaded := true
    outSample := 0
    schedule := [.strobe] }

def s0 : State := started cfg0 song0

/-- `s0` with its first voice changed. -/
def s0With (f : Voice → Voice) : State := { s0 with voice0 := f s0.voice0 }

/-- `s0` with both countdowns set. -/
def waiting (a b : BitVec 32) : State :=
  { s0 with
    voice0 := { s0.voice0 with countdown := a }
    voice1 := { s0.voice1 with countdown := b } }

/-- Whether an answer is a next state with a property. -/
def gives (r : Result) (p : State → Bool) : Bool :=
  match r with
  | .next t => p t
  | .fault _ => false
  | .refused _ => false

/-- Whether an answer is a refusal with a name. -/
def refuses (r : Result) (k : Refusal) : Bool :=
  match r with
  | .next _ => false
  | .fault _ => false
  | .refused x => x == k

/-! ### WellFormed (30_encoding.md R82): each check refuses an ill-formed term -/

theorem test_wf_note_zero_refused : (Instr.note 1 0 0).wf = false := by decide
theorem test_wf_rsvNote_clear_refused : (Instr.rsvNote 0 1 0 0 5).wf = false := by decide
theorem test_wf_effect_pause_refused : (Instr.effectInvalid 1 10).wf = false := by decide
theorem test_wf_effect_speed_refused : (Instr.effectInvalid 6 10).wf = false := by decide

/-! ### Decode: one written-out word per constructor (95_test_vectors.md §2.1, 30_encoding.md R88) -/

theorem test_decode_note : decode 0b0011101111111111 = .note 7 7 127 := by decide
theorem test_decode_note_smallest : decode 0b0000000000000001 = .note 0 0 1 := by decide
theorem test_decode_rest : decode 0b0000100010000000 = .rest 1 1 := by decide
theorem test_decode_rsvNote_bit10 : decode 0b0000010000000101 = .rsvNote 0 0 1 0 5 := by decide
theorem test_decode_rsvNote_bit14 : decode 0b0100000000000101 = .rsvNote 1 0 0 0 5 := by decide
theorem test_decode_effectInvalid : decode 0b1000111100010010 = .effectInvalid 15 0x12 := by decide
theorem test_decode_effectInvalid_zero : decode 0b1000000000000000 = .effectInvalid 0 0 := by decide
theorem test_decode_pause : decode 0b1000000100001010 = .pause 10 := by decide
theorem test_decode_jump : decode 0b1000001011111111 = .jump 255 := by decide
theorem test_decode_instr : decode 0b1000001100000001 = .instr 1 := by decide
theorem test_decode_alevel : decode 0b1000010001100100 = .alevel 100 := by decide
theorem test_decode_slevel : decode 0b1000010100110010 = .slevel 50 := by decide
theorem test_decode_speed : decode 0b1000011000000011 = .speed 3 := by decide
theorem test_decode_tick : decode 0b1001001100011000 = .tick 3 24 := by decide
theorem test_decode_attack : decode 0b1010111111111111 = .attack 4095 := by decide
theorem test_decode_decay : decode 0b1011000000010100 = .decay 20 := by decide
theorem test_decode_release : decode 0b1100000000110010 = .release 50 := by decide
theorem test_decode_rsvD : decode 0b1101000000000000 = .rsvD 0 := by decide
theorem test_decode_rsvE : decode 0b1110000100100011 = .rsvE 0x123 := by decide
theorem test_decode_rsvF : decode 0b1111111111111111 = .rsvF 0xFFF := by decide
theorem test_decode_table_word : decodeTableWord 16 0x0805 = some (.note 1 0 5) := by decide
theorem test_decode_longer_rejected : decodeTableWord 32 0x0805 = none := by decide

/-! ### The note family (95_test_vectors.md §2.3) -/

theorem test_note_pause_releases : gives (exec (.note 1 1 9) s0) (fun t =>
    t.voice0.freq == 900 && t.voice0.relMark == 4 && t.voice0.released && t.voice0.countdown == 8 &&
      t.voice0.cur == 1) = true := by decide
theorem test_note_longest : gives (exec (.note 7 7 1) { s0 with speed := 255 }) (fun t =>
    t.voice0.relMark == 255 && t.voice0.countdown == 130050) = true := by decide
theorem test_rest_marks_age : gives (exec (.rest 2 0) { s0With (fun v => { v with age := 300, freq := 7 }) with
      speed := 2 }) (fun t => t.voice0.relMark == 300 && t.voice0.released && t.voice0.countdown == 16 &&
        t.voice0.freq == 7) = true := by decide
theorem test_rest_compat_at_age_zero :
    gives (exec (.rest 0 0) (started { cfg0 with releaseSentinelCompat := true } song0)) (fun t =>
      t.voice0.relMark == 0 && !t.voice0.released) = true := by decide

/-! ### The effect family (95_test_vectors.md §2.4) -/

theorem test_pause : gives (exec (.pause 255) { s0 with speed := 255 }) (fun t => t.voice0.countdown == 65025) =
    true := by decide
theorem test_pause_then_decrement : gives (tick (started cfg0 ⟨[[0x810A], [0x81FF]]⟩)) (fun t =>
    t.voice0.countdown == 9) = true := by decide
theorem test_jump_taken : gives (exec (.jump 1) (s0With fun v => { v with cur := 5 })) (fun t =>
    t.voice0.pat == 1 && t.voice0.cur == 0 && t.diag == []) = true := by decide
theorem test_jump_out_of_range :
    gives (exec (.jump 4) { started cfg0 ⟨[[], [], [], []]⟩ with
        voice1 := { s0.voice1 with cur := 5 }, active := .v1, tickCounter := 9 }) (fun t =>
      t.voice1.pat == 1 && t.voice1.cur == 6 && t.diag == [⟨.patternIndexRange, .v1, 0x8204, 9⟩]) = true := by decide
theorem test_instr_selects : gives (exec (.instr 1) s0) (fun t => t.voice0.instr == some 1) = true := by decide
theorem test_instr_out_of_range : gives (exec (.instr 2) (s0With fun v => { v with instr := some 0 })) (fun t =>
    t.voice0.instr == some 0 && t.diag == [⟨.instrumentIndexRange, .v0, 0x8302, 0⟩]) = true := by decide
theorem test_alevel_clamped : gives (exec (.alevel 200) s0) (fun t => t.voice0.atkLevel == 100) = true := by decide
theorem test_alevel_unclamped : gives (exec (.alevel 200) (started { cfg0 with levelClamp := false } song0))
    (fun t => t.voice0.atkLevel == 200) = true := by decide
theorem test_slevel : gives (exec (.slevel 50) s0) (fun t => t.voice0.susLevel == 50 && t.voice0.atkLevel == 0) =
    true := by decide
theorem test_speed : gives (exec (.speed 3) s0) (fun t => t.speed == 3 && t.voice0.countdown == 0) = true := by decide
theorem test_effectInvalid : gives (exec (.effectInvalid 7 0x20) s0) (fun t =>
    t.diag == [⟨.invalidEffect, .v0, 0x8720, 0⟩] && t.voice0 == { s0.voice0 with cur := 1 }) = true := by decide

/-! ### The timing-parameter family (95_test_vectors.md §2.5) -/

theorem test_tick : gives (exec (.tick 7 0) s0) (fun t => t.voice0.ticks == #v[0, 4, 8, 16, 32, 64, 128, 0]) =
    true := by decide
theorem test_tick_out_of_range : gives (exec (.tick 8 4) s0) (fun t =>
    t.voice0.ticks == s0.voice0.ticks && t.diag == [⟨.tickIndexRange, .v0, 0x9804, 0⟩]) = true := by decide
theorem test_attack : gives (exec (.attack 10) s0) (fun t => t.voice0.atkTime == 80 && t.voice0.decTime == 0) =
    true := by decide
theorem test_decay : gives (exec (.decay 20) (s0With fun v => { v with atkTime := 80 })) (fun t =>
    t.voice0.decTime == 240) = true := by decide
theorem test_decay_largest : gives (exec (.decay 4095) (s0With fun v => { v with atkTime := 32760 })) (fun t =>
    t.voice0.decTime == 65520) = true := by decide
theorem test_release : gives (exec (.release 50) s0) (fun t => t.voice0.relTime == 400) = true := by decide

/-! ### Reserved words (95_test_vectors.md §2.2, 40_sequencer_step.md R104) -/

def asNoteCfg : Config := { cfg0 with reservedPolicy := .asNote }

theorem test_rsvNote_refused : gives (exec (.rsvNote 0 0 1 0 5) s0) (fun t =>
    t.faultKind == some .reservedWord && t.voice0 == s0.voice0) = true := by decide
theorem test_rsvNote_as_note : gives (exec (.rsvNote 0 0 1 0 5) (started asNoteCfg song0)) (fun t =>
    t.voice0.freq == 500 && t.faultKind == none) = true := by decide
theorem test_rsvD_as_rest : gives (exec (.rsvD 0) (started asNoteCfg song0)) (fun t =>
    t.voice0.countdown == 8 && t.voice0.released && t.voice0.cur == 1) = true := by decide
theorem test_rsvE_as_note : gives (exec (.rsvE 0x005) (started asNoteCfg song0)) (fun t =>
    t.voice0.freq == 500 && t.voice0.countdown == 32) = true := by decide
theorem test_rsvF_refused : gives (exec (.rsvF 0) s0) (fun t => t.faultKind == some .reservedWord) = true := by decide

/-! ### Envelope (95_test_vectors.md §2.6) -/

def adsr : Voice :=
  { Voice.construct cfg0 with atkTime := 80, decTime := 240, relTime := 400, atkLevel := 100, susLevel := 50 }

theorem test_envelope_held : ([0, 40, 79, 80, 160, 239, 240, 5000].map fun a => envPct { adsr with age := a }) =
    [0, 50, 98, 100, 75, 51, 50, 50] := by decide
theorem test_envelope_released : ([1000, 1200, 1399, 1400, 2000].map fun a =>
    envPct { adsr with age := a, released := true, relMark := 1000 }) = [50, 25, 1, 0, 0] := by decide
theorem test_envelope_decay_before_attack : ([50, 80].map fun a => envPct { adsr with decTime := 40, age := a }) =
    [62, 50] := by decide
theorem test_envelope_rising_decay : ([80, 160, 239].map fun a =>
    envPct { adsr with atkLevel := 20, susLevel := 60, age := a }) = [20, 40, 59] := by decide
theorem test_envelope_release_saturates : ([2, 4, 12].map fun a =>
    envPct { adsr with relTime := 16, released := true, relMark := 4, age := a }) = [50, 50, 25] := by decide

/-! ### Oscillator and mixer (95_test_vectors.md §2.7, §2.8) -/

theorem test_phase_advance : (oscVoice cfg0 { adsr with freq := 1000 }).phase = 8192 := by decide
theorem test_interpolation : ([8192, 4096, 45056, 61440].map fun p => interpSample cfg0 0 p) = [64, 32, -95, -32] := by
  decide
theorem test_direct : ([16384, 32768].map fun p => directSample cfg0 1 p) = [100, -100] := by decide
theorem test_length_not_dividing : ([10000, 50000].map fun p =>
    interpSample { cfg0 with instruments := [⟨[0, 90, -90], true⟩] } 0 p) = [41, -65] := by decide
theorem test_scale_truncates : scaleSample (-127) 50 = -63 ∧ scaleSample (-64) 37 = -23 ∧ scaleSample (-1) 99 = 0 := by
  decide
theorem test_no_instrument : (oscVoice cfg0 { adsr with freq := 500 }).phase = 4096 ∧
    (oscVoice cfg0 { adsr with freq := 500 }).age = 1 ∧ oscSample cfg0 { adsr with freq := 500 } = 0 := by decide
theorem test_age_saturates : (oscVoice cfg0 { adsr with age := 0xFFFFFFFF }).age = 0xFFFFFFFF := by decide
theorem test_mix : mix cfg0 127 127 = 255 ∧ mix cfg0 (-128) (-128) = 0 ∧ mix cfg0 100 27 = 255 ∧
    mix cfg0 (-100) 0 = 28 := by decide

/-! ### Tick loop, events, reset (95_test_vectors.md §1.1, §2.8, §2.9) -/

theorem test_first_tick : gives (step s0) (fun t =>
    t.voice0.countdown == 3 && t.voice0.cur == 1 && t.voice1.countdown == 254 && t.outSample == 128 && t.ready &&
      t.tickCounter == 1 && t.voice0.phase == 4096) = true := by decide
theorem test_skipped_tick : gives (step { s0 with ready := true }) (fun t =>
    t.voice0 == s0.voice0 && t.voice1 == s0.voice1 && t.tickCounter == 0 && t.outSample == 0 && t.schedule == []) =
    true := by decide
theorem test_no_song : gives (step State.reset) (fun t => t.faultKind == some .noSong) = true := by decide
theorem test_tick_counter_wraps : gives (step { waiting 5 5 with tickCounter := 0xFFFFFFFF }) (fun t =>
    t.tickCounter == 0) = true := by decide
theorem test_load_starts : gives (step { State.construct cfg0 with schedule := [.loadSong song0 ⟨0, 1⟩] }) (fun t =>
    t.voice0.pat == 0 && t.voice1.pat == 1 && t.songLoaded && t.voice1.ticks == cfg0.defaultTicks) = true := by decide
theorem test_load_reserved_refused :
    refuses (step { s0 with schedule := [.loadSong ⟨[[0x0405], [0x81FF]]⟩ ⟨0, 1⟩] }) .songNotWellFormed = true := by
  decide
theorem test_load_start_pattern_refused :
    refuses (step { s0 with schedule := [.loadSong ⟨[[0x8200]]⟩ ⟨0, 1⟩] }) .songNotWellFormed = true := by decide
theorem test_load_empty_instrument_refused :
    refuses (step { started { cfg0 with instruments := [⟨[], true⟩] } song0 with
      schedule := [.loadSong song0 ⟨0, 1⟩] }) .configNotAdmitted = true := by decide
theorem test_run_counts_skipped_strobes : gives (runEnd 2 s0) (fun t =>
    t.tickCounter == 1 && t.voice0.countdown == 3 && t.schedule == []) = true := by decide
theorem test_run_stops_at_fault : gives (runEnd 2 { s0With (fun v => { v with cur := 2 }) with
      schedule := [.strobe, .loadSong song0 ⟨0, 1⟩] }) (fun t =>
    t.faultKind == some .cursorOverrun && t.voice0.cur == 2 && t.schedule == [.loadSong song0 ⟨0, 1⟩]) = true := by decide
theorem test_partial_load_keeps :
    gives (step { started { cfg0 with loadSongFullReset := false } song0 with
        speed := 3, voice0 := { s0.voice0 with instr := some 1, phase := 7 }, schedule := [.loadSong song0 ⟨1, 0⟩] })
      (fun t => t.speed == 3 && t.voice0.instr == some 1 && t.voice0.phase == 0 && t.voice0.pat == 1) = true := by
  decide
theorem test_fetch_hook : gives (step (State.reset.withFetchWord 16 0x8204)) (fun t =>
    t.diag == [⟨.patternIndexRange, .v0, 0x8204, 0⟩]) = true := by decide

/-! ### Witnesses: the hypotheses of each statement, met together, clause by clause -/

theorem witness_DecodeOfEncode : (Instr.note 7 7 127).wf = true ∧ (Instr.rsvNote 0 0 1 0 0).wf = true ∧
    (Instr.effectInvalid 15 255).wf = true := by decide
theorem witness_NoteWordFields : (7 < 8 ∧ 7 < 8 ∧ 127 < 128) ∧ (0 < 8 ∧ 0 < 8 ∧ 0 < 128) := by decide
theorem witness_EffectWordFields : (15 < 16 ∧ 255 < 256) ∧ (0 < 16 ∧ 0 < 256) := by decide
theorem witness_TimingWordFields : (15 < 16 ∧ 255 < 256) ∧ 4095 < 4096 := by decide
theorem witness_NoteResult : (1 : BitVec 7) ≠ 0 ∧ (127 : BitVec 7) ≠ 0 := by decide
theorem witness_InvalidEffectResult : ((0 : BitVec 4) = 0 ∨ 7 ≤ (0 : BitVec 4).toNat) ∧
    ((7 : BitVec 4) = 0 ∨ 7 ≤ (7 : BitVec 4).toNat) := by decide
theorem witness_TickResult : (7 : BitVec 4).toNat < 8 ∧ 8 ≤ (8 : BitVec 4).toNat := by decide
theorem witness_AttackReleaseResults : msScaleAdmitted s0.cfg = true := by decide
theorem witness_DecayResult : msScaleAdmitted s0.cfg = true ∧ (s0.voice s0.active).atkTime.toNat < 2 ^ 31 := by decide
theorem witness_ReservedWordRefused : (Instr.rsvF 0xFFF).isReserved = true ∧ s0.cfg.reservedPolicy = .refuse := by
  decide
theorem witness_ReservedWordAsNote : isReservedWord 0xD000 = true ∧ isReservedWord 0x0405 = true ∧
    (started asNoteCfg song0).cfg.reservedPolicy = .asNote := by decide
theorem witness_WordWritesOnlyItsFields : ∃ t, exec (.note 1 0 5) s0 = .next t ∧
    VoiceField.phase ∉ writtenFields (.note 1 0 5) := ⟨_, rfl, by decide⟩
theorem witness_WordFrame_speed : ∃ t, exec (.pause 1) s0 = .next t ∧ (∀ m, Instr.pause 1 ≠ .speed m) ∧
    reports s0 (.pause 1) = false ∧ (Instr.pause 1).isReserved = false :=
  ⟨_, rfl, (fun m h => by cases h), by decide, by decide⟩
theorem witness_WordFrame_report_boundary : ∃ t, exec (.jump 1) s0 = .next t ∧ reports s0 (.jump 1) = false :=
  ⟨_, rfl, by decide⟩
theorem witness_ErrorsAreReported : [Instr.effectInvalid 7 0, .jump 2, .instr 2, .tick 8 0].all
    (fun i => i.wf && reports s0 i) = true := by decide
theorem witness_MalformedTimingNotReported : ∃ k, Instr.attack 0 = .attack k := ⟨0, rfl⟩
theorem witness_ProgramCounter_taken : ∃ t, exec (.jump 1) s0 = .next t ∧ (1 : Byte).toNat < s0.mem.nPat :=
  ⟨_, rfl, by decide⟩
theorem witness_ProgramCounter_not_taken : ∃ t, exec (.jump 2) s0 = .next t ∧
    (∀ p, Instr.jump 2 = .jump p → s0.mem.nPat ≤ p.toNat) ∧ (Instr.jump 2).isReserved = false :=
  ⟨_, rfl, (fun p h => by cases h; decide), by decide⟩
theorem witness_ProgramCounter_reserved : ∃ t, exec (.rsvD 0) s0 = .next t ∧ (Instr.rsvD 0).isReserved = true ∧
    s0.cfg.reservedPolicy = .refuse := ⟨_, rfl, by decide, by decide⟩
theorem witness_StepRuns_voice0 : s0.schedule = .strobe :: ({ s0 with schedule := [] } : State).schedule ∧ s0.Runs ∧
    decode 0x0805 = .note 1 0 5 ∧ s0.voice0.countdown = 0 ∧
    s0.mem.patRead s0.voice0.pat.toNat s0.voice0.cur.toNat = some 0x0805 :=
  ⟨rfl, by decide, by decide, by decide, by decide⟩
theorem witness_StepRuns_default_strobe : ({ s0 with schedule := [] } : State).schedule = [] ∧
    ({ s0 with schedule := [] } : State).Runs := by decide
theorem witness_StepRuns_voice1 : (waiting 1 0).Runs ∧ (waiting 1 0).voice0.countdown ≠ 0 ∧
    (waiting 1 0).voice1.countdown = 0 ∧ decode 0x81FF = .pause 255 ∧
    (waiting 1 0).mem.patRead (waiting 1 0).voice1.pat.toNat (waiting 1 0).voice1.cur.toNat = some 0x81FF := by decide
theorem witness_EntryConditions_no_song : ({ State.construct cfg0 with schedule := [.strobe] } : State).schedule =
    .strobe :: [] ∧ (State.construct cfg0).faultKind = none ∧ (State.construct cfg0).songLoaded = false := by decide
theorem witness_EntryConditions_ready : ({ s0 with ready := true } : State).schedule = .strobe :: [] ∧
    s0.faultKind = none ∧ s0.songLoaded = true ∧ ({ s0 with ready := true } : State).ready = true := by decide
theorem witness_CursorOverrun_voice0 : (s0With fun v => { v with cur := 2 }).schedule = .strobe :: [] ∧
    (s0With fun v => { v with cur := 2 }).Runs ∧ (s0With fun v => { v with cur := 2 }).voice0.countdown = 0 ∧
    (s0With fun v => { v with cur := 2 }).mem.patLen 0 ≤ 2 := by decide
theorem witness_CursorOverrun_voice1 : ({ waiting 1 0 with mem := ⟨[[0x8200], []]⟩ } : State).Runs ∧
    (waiting 1 0).voice0.countdown ≠ 0 ∧ (waiting 1 0).voice1.countdown = 0 ∧
    (⟨[[0x8200], []]⟩ : Memory).patLen (waiting 1 0).voice1.pat.toNat ≤ (waiting 1 0).voice1.cur.toNat := by decide
theorem witness_InvocationWithoutDecode : (waiting 1 130050).schedule = .strobe :: [] ∧ (waiting 1 130050).Runs ∧
    (waiting 1 130050).voice0.countdown ≠ 0 ∧ (waiting 1 130050).voice1.countdown ≠ 0 := by decide
theorem witness_FaultsExactlyWhenFaulted : ({ s0 with faultKind := some .noSong } : State).StrobeNext ∧
    ({ s0 with faultKind := some .noSong } : State).faultKind = some .noSong := by decide
theorem witness_RefusesOnlyIllFormed_song : configAdmitted cfg0 = true ∧ songAdmitted cfg0 ⟨[[0x0405], [0x81FF]]⟩ ⟨0, 1⟩ = false := by decide
theorem witness_RefusesOnlyIllFormed_config : configAdmitted { cfg0 with sampleRate := 0 } = false := by decide

/-- A song whose voices meet a SPEED and a PAUSE in the same invocation. -/
def speedSong (w0 w1 : Word) : State := started cfg0 ⟨[[w0], [w1]]⟩

theorem witness_SpeedSeen_first : (speedSong 0x8603 0x8102).schedule = .strobe :: [] ∧ (speedSong 0x8603 0x8102).Runs ∧
    (speedSong 0x8603 0x8102).voice0.countdown = 0 ∧ (speedSong 0x8603 0x8102).voice1.countdown = 0 ∧
    (speedSong 0x8603 0x8102).fetch .v0 = some 0x8603 ∧ (speedSong 0x8603 0x8102).fetch .v1 = some 0x8102 ∧
    decode 0x8603 = .speed 3 ∧ decode 0x8102 = .pause 2 := by decide
theorem witness_SpeedSeen_second : (speedSong 0x8102 0x8603).Runs ∧
    (speedSong 0x8102 0x8603).fetch .v0 = some 0x8102 ∧ (speedSong 0x8102 0x8603).fetch .v1 = some 0x8603 := by decide
theorem witness_WaitingVoices : ({ waiting 3 4 with schedule := strobes 3 } : State).schedule = strobes 3 ∧
    ({ waiting 3 4 with schedule := strobes 3 } : State).Runs ∧ 3 ≤ (waiting 3 4).voice0.countdown.toNat ∧
    3 ≤ (waiting 3 4).voice1.countdown.toNat := by decide
theorem witness_NoteOccupies : 4 = ((waiting 0 9).voice0.ticks[0].toNat + (waiting 0 9).voice0.ticks[1].toNat) *
    (waiting 0 9).speed.toNat ∧ ({ waiting 0 9 with schedule := strobes 4 } : State).schedule = strobes 4 ∧
    (waiting 0 9).Runs ∧ (waiting 0 9).voice0.countdown = 0 ∧ (waiting 0 9).fetch .v0 = some 0x0805 ∧
    decode 0x0805 = .note 1 0 5 ∧ 4 ≤ (waiting 0 9).voice1.countdown.toNat := by decide
theorem witness_EnvelopeInRange : adsr.atkLevel.toNat ≤ 100 ∧ adsr.susLevel.toNat ≤ 100 := by decide
theorem witness_EnvelopeMonotone : envPhase { adsr with age := 0 } = .attack ∧ envPhase { adsr with age := 79 } = .attack ∧
    envPhase { adsr with age := 80 } = .decay ∧ envPhase { adsr with age := 239 } = .decay ∧
    envPhase { adsr with age := 240 } = .sustain ∧ envPhase { adsr with age := 0xFFFFFFFF } = .sustain ∧
    adsr.susLevel.toNat ≤ adsr.atkLevel.toNat ∧ (BitVec.toNat (0 : BitVec 32) ≤ (79 : BitVec 32).toNat) := by decide
theorem witness_EnvelopeMonotone_rising : envPhase { adsr with atkLevel := 20, susLevel := 60, age := 80 } = .decay ∧
    (20 : Byte).toNat ≤ (60 : Byte).toNat := by decide
theorem witness_EnvelopeMonotone_released : ({ adsr with released := true } : Voice).released = true := by decide
theorem witness_ImmediateNoteOff : cfg0.releaseSentinelCompat = false ∧ adsr.relTime ≠ 0 ∧
    adsr.relTime.toNat ≤ (400 : BitVec 32).toNat := by decide
theorem witness_Oscillator : oscRuns cfg0 adsr = true ∧ adsr.phase < phaseMax cfg0 ∧
    oscRuns cfg0 { adsr with instr := some 1 } = true := by decide
theorem witness_TablePosition : 65535 < phaseMax cfg0 ∧ 1 ≤ 1 ∧ phaseFrac cfg0 8192 8 = 0 := by decide
theorem witness_Interpolation : 65535 < phaseMax cfg0 ∧ 1 ≤ instrLen cfg0 0 ∧ phaseFrac cfg0 8192 (instrLen cfg0 0) = 0 := by
  decide
theorem witness_NoInstrument : adsr.instr = none ∧ cfg0.noInstrAdvances = true ∧
    ({ cfg0 with noInstrAdvances := false } : Config).noInstrAdvances = false := by decide
theorem witness_SampleInRange : configAdmitted cfg0 = true ∧ adsr.atkLevel.toNat ≤ 100 ∧ adsr.susLevel.toNat ≤ 100 ∧
    ∀ k, ({ adsr with instr := some 1 } : Voice).instr = some k → k.toNat < cfg0.instruments.length :=
  ⟨by decide, by decide, by decide, fun k h => by cases h; decide⟩
theorem witness_MixedOutput : cfg0.outMin ≤ cfg0.outMax ∧ (cfg0.outMin ≤ -128 + 0 + cfg0.outBias) ∧
    (100 + 27 + cfg0.outBias ≤ cfg0.outMax) ∧ -128 + -1 + cfg0.outBias < cfg0.outMin ∧
    cfg0.outMax < 100 + 28 + cfg0.outBias := by decide
theorem witness_ConstructEvent : ({ s0 with schedule := [.construct] } : State).schedule = .construct :: [] ∧
    configAdmitted s0.cfg = true := by decide
theorem witness_LoadSong_full : ({ s0 with schedule := [.loadSong song0 ⟨0, 1⟩] } : State).schedule =
    .loadSong song0 ⟨0, 1⟩ :: [] ∧ configAdmitted s0.cfg = true ∧ songAdmitted s0.cfg song0 ⟨0, 1⟩ = true ∧ s0.cfg.loadSongFullReset = true := by decide
theorem witness_LoadSong_partial : configAdmitted { cfg0 with loadSongFullReset := false } = true ∧ songAdmitted { cfg0 with loadSongFullReset := false } song0 ⟨1, 1⟩ = true ∧
    ({ cfg0 with loadSongFullReset := false } : Config).loadSongFullReset = false := by decide
theorem witness_Consumer : ({ s0 with schedule := [.consume], ready := true } : State).schedule = .consume :: [] := by
  decide

/-- The started block meets the invariant, its song loaded and its output register written. -/
theorem witness_Inv : s0.Inv where
  voice0_ok :=
    { phase_lt := by decide, instr_lt := (fun k h => by cases h), levels_le := (fun _ => by decide)
      countdown_le := by decide, times_lt := (fun _ => by decide), mark_zero := (fun _ => by decide)
      mark_compat := (fun h => absurd h (by decide)), mark_le := by decide, pc_in := (fun _ => by decide) }
  voice1_ok :=
    { phase_lt := by decide, instr_lt := (fun k h => by cases h), levels_le := (fun _ => by decide)
      countdown_le := by decide, times_lt := (fun _ => by decide), mark_zero := (fun _ => by decide)
      mark_compat := (fun h => absurd h (by decide)), mark_le := by decide, pc_in := (fun _ => by decide) }
  config_ok := by decide
  mem_wf := by decide
  song_nonempty := fun _ => by decide
  song_admitted := fun _ hp _ _ _ hw =>
    songAdmitted_words (c := cfg0) (sp := ⟨0, 1⟩) (by decide) hp hw
  out_range := fun _ h => absurd h (by decide)

theorem witness_StepKeepsInvariant : s0.Inv ∧ gives (step s0) (fun t => t.faultKind == none) = true ∧
    s0.faultKind = none := ⟨witness_Inv, by decide, by decide⟩
theorem witness_ConfigAndSongFixed : s0.schedule.head? ≠ some .construct ∧
    ∀ m sp, s0.schedule.head? ≠ some (.loadSong m sp) := ⟨by decide, fun _ _ h => by cases h⟩
theorem witness_ReportsAreAppended : gives (step (started cfg0 ⟨[[0x8204], [0x8302]]⟩)) (fun t =>
    t.diag == [⟨.patternIndexRange, .v0, 0x8204, 0⟩, ⟨.instrumentIndexRange, .v1, 0x8302, 0⟩]) = true ∧
    (started cfg0 ⟨[[0x8204], [0x8302]]⟩).schedule.head? ≠ some .construct := by decide
theorem witness_CounterAndStream : gives (step s0) (fun _ => true) = true ∧
    refuses (step { s0 with schedule := [.loadSong ⟨[]⟩ ⟨0, 1⟩] }) .songNotWellFormed = true := by decide
theorem witness_VoicesSequenceApart : gives (seqPhase .v0 s0) (fun t => t.voice0.countdown == 3) = true := by decide
theorem witness_StrobeOutcomes : s0.StrobeNext ∧ s0.faultKind = none ∧
    ({ s0 with schedule := [] } : State).StrobeNext := by decide

end Sys2Proof.Tests
end

section
/-! PROOFS. The field layouts of 30_encoding.md R72, R74, R76 and R77: the slices of a word built by arithmetic, and the
decoder's answer for each class of words. -/

namespace Sys2Proof

/-! ### Slices of a word given by its number -/

/-- The slice of a word built by arithmetic, from the congruence that says which number stands in it. -/
theorem bits_ofNat_eq {m : Nat} (lo len x : Nat) (h : lo + len ≤ 16) (hx : m / 2 ^ lo % 2 ^ len = x % 2 ^ len) :
    bits (BitVec.ofNat 16 m) lo len = BitVec.ofNat len x := by
  refine BitVec.eq_of_toNat_eq ?_
  calc (bits (BitVec.ofNat 16 m) lo len).toNat
      = m % 2 ^ 16 / 2 ^ lo % 2 ^ len := by rw [bits_toNat, BitVec.toNat_ofNat]
    _ = m / 2 ^ lo % 2 ^ len := by
        have hsplit : 2 ^ 16 = 2 ^ lo * 2 ^ (16 - lo) := by rw [← pow_add, Nat.add_sub_cancel' (by omega)]
        rw [hsplit, Nat.mod_mul_right_div_self, Nat.mod_mod_of_dvd _ (pow_dvd_pow 2 (by omega))]
    _ = (BitVec.ofNat len x).toNat := by rw [hx, BitVec.toNat_ofNat]

/-! ### `decode` by the class `w[15:12]` (30_encoding.md R71, R79) -/

section

variable {w : Word}

theorem decode_of_class_effect (h : bits w 12 4 = 0b1000) :
    decode w = decodeEffect (bits w 8 4) (bits w 0 8) := by simp [decode, h]

theorem decode_of_class_tick (h : bits w 12 4 = 0b1001) : decode w = .tick (bits w 8 4) (bits w 0 8) := by
  simp [decode, h]

theorem decode_of_class_attack (h : bits w 12 4 = 0b1010) : decode w = .attack (bits w 0 12) := by simp [decode, h]

theorem decode_of_class_decay (h : bits w 12 4 = 0b1011) : decode w = .decay (bits w 0 12) := by simp [decode, h]

theorem decode_of_class_release (h : bits w 12 4 = 0b1100) : decode w = .release (bits w 0 12) := by simp [decode, h]

/-- With bit 15 clear none of the eight upper classes is met. -/
theorem decode_of_toNat_lt (h : w.toNat < 0x8000) : decode w = decodeNoteClass w := by
  have hclass : (bits w 12 4).toNat < 8 := by rw [bits_toNat]; omega
  have hne : ∀ c : BitVec 4, 8 ≤ c.toNat → bits w 12 4 ≠ c := by rintro c hc rfl; omega
  simp [decode, hne]

/-- With bits 14 and 10 clear the word is a note, or a rest when its note field is 0 (30_encoding.md R72). -/
theorem decodeNoteClass_of_clear (h14 : bits w 14 1 = 0) (h10 : bits w 10 1 = 0) :
    decodeNoteClass w = if bits w 0 7 = 0 then .rest (bits w 11 3) (bits w 7 3)
      else .note (bits w 11 3) (bits w 7 3) (bits w 0 7) := by
  simp [decodeNoteClass, h14, h10]

end

/-! ### The obligations -/

/-- Settles O3: bits 15, 14 and 10 of the sum are clear, and each field is its slice. -/
theorem noteWordFields : Obligations.NoteWordFields := by
  intro d p n hd hp hn
  have hlt : (BitVec.ofNat 16 (d * 2 ^ 11 + p * 2 ^ 7 + n)).toNat < 0x8000 := by
    rw [BitVec.toNat_ofNat]; omega
  have h14 := bits_ofNat_eq (m := d * 2 ^ 11 + p * 2 ^ 7 + n) 14 1 0 (by omega) (by omega)
  have h10 := bits_ofNat_eq (m := d * 2 ^ 11 + p * 2 ^ 7 + n) 10 1 0 (by omega) (by omega)
  have hn0 : BitVec.ofNat 7 n = 0 ↔ n = 0 := by
    simp [← BitVec.toNat_inj, Nat.mod_eq_of_lt hn]
  rw [decode_of_toNat_lt hlt, decodeNoteClass_of_clear h14 h10,
    bits_ofNat_eq 11 3 d (by omega) (by omega), bits_ofNat_eq 7 3 p (by omega) (by omega),
    bits_ofNat_eq 0 7 n (by omega) (by omega)]
  simp only [hn0]

/-- Settles O4: the effect number and the argument are their slices; the list of R75 is gone through number by
number. -/
theorem effectWordFields : Obligations.EffectWordFields := by
  intro e a he ha
  rw [decode_of_class_effect (bits_ofNat_eq 12 4 8 (by omega) (by omega)),
    bits_ofNat_eq 8 4 e (by omega) (by omega), bits_ofNat_eq 0 8 a (by omega) (by omega)]
  interval_cases e <;> rfl

/-- Settles O5: the class picks the form, and each operand is its slice. -/
theorem timingWordFields : Obligations.TimingWordFields := by
  refine ⟨fun i x hi hx => ?_, fun k hk => ⟨?_, ?_, ?_⟩⟩
  · rw [decode_of_class_tick (bits_ofNat_eq 12 4 9 (by omega) (by omega)),
      bits_ofNat_eq 8 4 i (by omega) (by omega), bits_ofNat_eq 0 8 x (by omega) (by omega)]
  · rw [decode_of_class_attack (bits_ofNat_eq 12 4 10 (by omega) (by omega)),
      bits_ofNat_eq 0 12 k (by omega) (by omega)]
  · rw [decode_of_class_decay (bits_ofNat_eq 12 4 11 (by omega) (by omega)),
      bits_ofNat_eq 0 12 k (by omega) (by omega)]
  · rw [decode_of_class_release (bits_ofNat_eq 12 4 12 (by omega) (by omega)),
      bits_ofNat_eq 0 12 k (by omega) (by omega)]

end Sys2Proof
end

section
/-! PROOFS. The effect words of 42_effects.md: the countdown `PAUSE` sets, and its whole next state. -/

namespace Sys2Proof.Machine

/-! ### The countdown of a pause (10_state.md R35) -/

/-- The product of two bytes is at most 255 * 255. -/
theorem byte_mul_le (t m : Byte) : t.toNat * m.toNat ≤ 65025 :=
  Nat.mul_le_mul (Nat.le_of_lt_succ t.isLt) (Nat.le_of_lt_succ m.isLt)

/-- So it fits the 32-bit countdown, and nothing is cut off. -/
@[simp] theorem pauseCountdown_toNat (t speed : Byte) : (pauseCountdown t speed).toNat = t.toNat * speed.toNat :=
  Nat.mod_eq_of_lt ((byte_mul_le t speed).trans_lt (by decide))

/-! ### `PAUSE` (42_effects.md R121) -/

/-- Effect number 1 of 30_encoding.md R75, as the word of 42_effects.md R121. -/
theorem decode_pauseWord (t : Byte) : decode (BitVec.ofNat 16 (0x8100 + t.toNat)) = .pause t := by
  have h : decode (BitVec.ofNat 16 (0x8100 + t.toNat)) = .pause (BitVec.ofNat 8 t.toNat) :=
    effectWordFields 1 t.toNat (by decide) t.isLt
  rw [h, BitVec.ofNat_toNat, BitVec.setWidth_eq]

/-- The advance of the cursor and the write of the countdown, as one write of the active voice. -/
theorem exec_pause_setVoice (s : State) (t : Byte) : exec (.pause t) s =
    .next (s.setVoice s.active { s.voice s.active with
      cur := (s.voice s.active).cur + 1, countdown := pauseCountdown t s.speed }) := by
  rw [exec_pause, State.advanceCursor_onActive, State.onActive, State.activeVoice]

/-- Settles O10: the word is effect 1, the two writes are one write of the active voice, and the product fits. -/
theorem pauseResult : Obligations.PauseResult := fun s t =>
  ⟨decode_pauseWord t, exec_pause_setVoice s t, pauseCountdown_toNat t s.speed⟩

end Sys2Proof.Machine
end

section
/-! PROOFS. The timing words of 43_timing_words.md: `MS_TO_SAMPLES` under R140, and the whole next states of `ATTACK` and
`RELEASE`. -/

namespace Sys2Proof.Machine

/-! ### `MS_TO_SAMPLES` (43_timing_words.md R140) -/

/-- An admitted scale is below 2^31 at every operand: the default grows with `k`, and a table is checked entry by
entry. -/
theorem msToSamples_lt {c : Config} (h : msScaleAdmitted c = true) (k : Imm12) : msToSamples c k < 2 ^ 31 := by
  cases hscale : c.msScale with
  | perMillisecond =>
    simp only [msScaleAdmitted, hscale, decide_eq_true_eq] at h
    calc msToSamples c k
        = k.toNat * c.sampleRate / 1000 := by simp only [msToSamples, hscale]
      _ ≤ 4095 * c.sampleRate / 1000 :=
          Nat.div_le_div_right (Nat.mul_le_mul_right _ (Nat.le_of_lt_succ k.isLt))
      _ < 2 ^ 31 := h
  | table t =>
    simp only [msScaleAdmitted, hscale, Vector.all_eq_true, decide_eq_true_eq] at h
    simpa only [msToSamples, hscale] using h k.toNat k.isLt

/-- So a stored time is exact: nothing is cut off at 32 bits. -/
theorem ofNat_msToSamples_toNat {c : Config} (h : msScaleAdmitted c = true) (k : Imm12) :
    (BitVec.ofNat 32 (msToSamples c k)).toNat = msToSamples c k :=
  Nat.mod_eq_of_lt ((msToSamples_lt h k).trans (by decide))

/-! ### `ATTACK` and `RELEASE` (43_timing_words.md R142, R144) -/

/-- The advance of the cursor and a write of the active voice, as one write of the active voice. -/
theorem State.advanceCursor_onActive_setVoice (s : State) (f : Voice → Voice) :
    s.advanceCursor.onActive f =
      s.setVoice s.active (f { s.voice s.active with cur := (s.voice s.active).cur + 1 }) := by
  rw [State.advanceCursor_onActive, State.onActive, State.activeVoice]

/-- The form of class 0xA in 30_encoding.md R76, as the word of R142. -/
theorem decode_attackWord (k : Imm12) : decode (BitVec.ofNat 16 (0xA000 + k.toNat)) = .attack k := by
  obtain ⟨hattack, -, -⟩ := timingWordFields.2 k.toNat k.isLt
  rw [hattack, BitVec.ofNat_toNat, BitVec.setWidth_eq]

/-- The form of class 0xC in 30_encoding.md R76, as the word of R144. -/
theorem decode_releaseWord (k : Imm12) : decode (BitVec.ofNat 16 (0xC000 + k.toNat)) = .release k := by
  obtain ⟨-, -, hrelease⟩ := timingWordFields.2 k.toNat k.isLt
  rw [hrelease, BitVec.ofNat_toNat, BitVec.setWidth_eq]

/-- The whole next state of `ATTACK k`: its time and the cursor. -/
theorem exec_attack_setVoice (s : State) (k : Imm12) : exec (.attack k) s =
    .next (s.setVoice s.active { s.voice s.active with
      cur := (s.voice s.active).cur + 1, atkTime := BitVec.ofNat 32 (msToSamples s.cfg k) }) := by
  rw [exec_attack, State.advanceCursor_onActive_setVoice]

/-- The whole next state of `RELEASE k`: its time and the cursor. -/
theorem exec_release_setVoice (s : State) (k : Imm12) : exec (.release k) s =
    .next (s.setVoice s.active { s.voice s.active with
      cur := (s.voice s.active).cur + 1, relTime := BitVec.ofNat 32 (msToSamples s.cfg k) }) := by
  rw [exec_release, State.advanceCursor_onActive_setVoice]

/-- Settles O17: each word is its class, its two writes are one write of the active voice, and an admitted scale
fits. -/
theorem attackReleaseResults : Obligations.AttackReleaseResults := fun s k =>
  ⟨decode_attackWord k, exec_attack_setVoice s k, decode_releaseWord k, exec_release_setVoice s k,
    fun h => ofNat_msToSamples_toNat h k⟩

end Sys2Proof.Machine
end

section
/-! PROOFS. The reports and faults of 60_exceptions.md R203: the words that set times and levels make none. -/

namespace Sys2Proof.Machine

/-- Settles O24: each of the five words only advances the cursor and writes the active voice, and a write of a voice
touches neither the stream nor the fault record. -/
theorem malformedTimingNotReported : Obligations.MalformedTimingNotReported := by
  intro i s hi
  have hwrite : ∃ f, exec i s = .next (s.advanceCursor.onActive f) := by
    obtain ⟨k, rfl⟩ | ⟨k, rfl⟩ | ⟨k, rfl⟩ | ⟨l, rfl⟩ | ⟨l, rfl⟩ := hi
    · exact ⟨_, exec_attack s k⟩
    · exact ⟨_, exec_decay s k⟩
    · exact ⟨_, exec_release s k⟩
    · exact ⟨_, exec_alevel s l⟩
    · exact ⟨_, exec_slevel s l⟩
  obtain ⟨f, hexec⟩ := hwrite
  refine ⟨s.advanceCursor.onActive f, hexec, ?_, ?_⟩
  · rw [State.onActive_diag, State.advanceCursor_diag]
  · rw [State.onActive_faultKind, State.advanceCursor_faultKind]

end Sys2Proof.Machine
end

section
/-! PROOFS. The encoder against the decoder (30_encoding.md R79, R81, R82, R84): an encoded word is the sum of its
fields, so both round trips are arithmetic on the fields. -/

namespace Sys2Proof

/-! ### The number of an encoded word -/

/-- A field that fits its word is a multiple of its place value. -/
theorem field_toNat {n : Nat} (x : BitVec n) (lo : Nat) (h : lo + n ≤ 16) :
    (field x lo).toNat = x.toNat * 2 ^ lo := by
  have hx : x.toNat * 2 ^ lo < 2 ^ 16 :=
    calc x.toNat * 2 ^ lo < 2 ^ n * 2 ^ lo := Nat.mul_lt_mul_of_pos_right x.isLt (by positivity)
      _ = 2 ^ (lo + n) := by rw [← pow_add, Nat.add_comm]
      _ ≤ 2 ^ 16 := Nat.pow_le_pow_right (by decide) h
  have hn : x.toNat < 2 ^ 16 := x.isLt.trans_le (Nat.pow_le_pow_right (by decide) (by omega))
  rw [field, BitVec.toNat_shiftLeft, BitVec.toNat_setWidth, Nat.mod_eq_of_lt hn, Nat.shiftLeft_eq, Nat.mod_eq_of_lt hx]

/-- A field below every bit of a word adds its number to the word's. -/
theorem or_field_toNat {n a : Nat} {w : Word} (hw : w.toNat = a) (x : BitVec n) (lo : Nat) (h : lo + n ≤ 16)
    (ha : a % 2 ^ (lo + n) = 0) : (w ||| field x lo).toNat = a + x.toNat * 2 ^ lo := by
  obtain ⟨m, rfl⟩ := Nat.dvd_of_mod_eq_zero ha
  have hx : x.toNat * 2 ^ lo < 2 ^ (lo + n) := by
    rw [Nat.add_comm, pow_add]
    exact Nat.mul_lt_mul_of_pos_right x.isLt (by positivity)
  rw [BitVec.toNat_or, field_toNat x lo h, hw, Nat.two_pow_add_eq_or_of_lt hx]

/-- The same for a field at bit 0. -/
theorem or_lowField_toNat {n a : Nat} {w : Word} (hw : w.toNat = a) (x : BitVec n) (h : n ≤ 16)
    (ha : a % 2 ^ n = 0) : (w ||| field x 0).toNat = a + x.toNat := by
  rw [or_field_toNat hw x 0 (by omega) (by rwa [Nat.zero_add]), pow_zero, Nat.mul_one]

/-- The word of an instruction as a sum of its fields, by the layouts of 30_encoding.md R72, R74, R76 and R77. -/
def Instr.number : Instr → Nat
  | .note d p n => d.toNat * 2 ^ 11 + p.toNat * 2 ^ 7 + n.toNat
  | .rest d p => d.toNat * 2 ^ 11 + p.toNat * 2 ^ 7
  | .rsvNote b14 d b10 p n =>
    b14.toNat * 2 ^ 14 + d.toNat * 2 ^ 11 + b10.toNat * 2 ^ 10 + p.toNat * 2 ^ 7 + n.toNat
  | .effectInvalid e a => 0x8000 + e.toNat * 2 ^ 8 + a.toNat
  | .pause t => 0x8100 + t.toNat
  | .jump p => 0x8200 + p.toNat
  | .instr k => 0x8300 + k.toNat
  | .alevel l => 0x8400 + l.toNat
  | .slevel l => 0x8500 + l.toNat
  | .speed m => 0x8600 + m.toNat
  | .tick i x => 0x9000 + i.toNat * 2 ^ 8 + x.toNat
  | .attack k => 0xA000 + k.toNat
  | .decay k => 0xB000 + k.toNat
  | .release k => 0xC000 + k.toNat
  | .rsvD x => 0xD000 + x.toNat
  | .rsvE x => 0xE000 + x.toNat
  | .rsvF x => 0xF000 + x.toNat

/-- Opcode bits over a 4-bit field at bit 8 and an 8-bit operand. -/
theorem opcode_field_field_toNat (c : Word) (e : BitVec 4) (a : Byte) (hc : c.toNat % 2 ^ 12 = 0) :
    (c ||| field e 8 ||| field a 0).toNat = c.toNat + e.toNat * 2 ^ 8 + a.toNat := by
  have he := or_field_toNat rfl e 8 (by decide) hc
  exact or_lowField_toNat he a (by decide) (by omega)

theorem encode_toNat (i : Instr) : (encode i).toNat = i.number := by
  cases i with
  | note d p n =>
    have hd := field_toNat d 11 (by decide)
    have hp := or_field_toNat hd p 7 (by decide) (by omega)
    exact or_lowField_toNat hp n (by decide) (by omega)
  | rest d p => exact or_field_toNat (field_toNat d 11 (by decide)) p 7 (by decide) (by omega)
  | rsvNote b14 d b10 p n =>
    have h14 := field_toNat b14 14 (by decide)
    have hd := or_field_toNat h14 d 11 (by decide) (by omega)
    have h10 := or_field_toNat hd b10 10 (by decide) (by omega)
    have hp := or_field_toNat h10 p 7 (by decide) (by omega)
    exact or_lowField_toNat hp n (by decide) (by omega)
  | effectInvalid e a => exact opcode_field_field_toNat 0x8000 e a (by decide)
  | pause t => exact or_lowField_toNat (w := 0x8100) rfl t (by decide) (by decide)
  | jump p => exact or_lowField_toNat (w := 0x8200) rfl p (by decide) (by decide)
  | instr k => exact or_lowField_toNat (w := 0x8300) rfl k (by decide) (by decide)
  | alevel l => exact or_lowField_toNat (w := 0x8400) rfl l (by decide) (by decide)
  | slevel l => exact or_lowField_toNat (w := 0x8500) rfl l (by decide) (by decide)
  | speed m => exact or_lowField_toNat (w := 0x8600) rfl m (by decide) (by decide)
  | tick i x => exact opcode_field_field_toNat 0x9000 i x (by decide)
  | attack k => exact or_lowField_toNat (w := 0xA000) rfl k (by decide) (by decide)
  | decay k => exact or_lowField_toNat (w := 0xB000) rfl k (by decide) (by decide)
  | release k => exact or_lowField_toNat (w := 0xC000) rfl k (by decide) (by decide)
  | rsvD x => exact or_lowField_toNat (w := 0xD000) rfl x (by decide) (by decide)
  | rsvE x => exact or_lowField_toNat (w := 0xE000) rfl x (by decide) (by decide)
  | rsvF x => exact or_lowField_toNat (w := 0xF000) rfl x (by decide) (by decide)

/-- An encoded word is the word of its number. -/
theorem encode_eq_ofNat (i : Instr) : encode i = BitVec.ofNat 16 i.number := by
  rw [← encode_toNat, BitVec.ofNat_toNat, BitVec.setWidth_eq]

/-! ### Decoding an encoded instruction -/

/-- The effect words, by effect number (30_encoding.md R74, R75). -/
theorem decode_effect_number (e : BitVec 4) (a : Byte) :
    decode (BitVec.ofNat 16 (0x8000 + e.toNat * 2 ^ 8 + a.toNat)) = decodeEffect e a := by
  rw [decode_of_class_effect (bits_ofNat_eq 12 4 8 (by decide) (by omega)),
    bits_ofNat_eq 8 4 e.toNat (by decide) (by omega), bits_ofNat_eq 0 8 a.toNat (by decide) (by omega)]
  simp

theorem decodeEffect_invalid {e : BitVec 4} (a : Byte) (h : e = 0 ∨ 7 ≤ e.toNat) :
    decodeEffect e a = .effectInvalid e a := by
  have hne : ∀ c : BitVec 4, 1 ≤ c.toNat → c.toNat ≤ 6 → e ≠ c := by
    rintro c h1 h6 rfl
    obtain rfl | h := h
    · exact absurd h1 (by decide)
    · omega
  simp [decodeEffect, hne]

/-- A word whose class is one of the three reserved ones (30_encoding.md R78). -/
theorem decode_rsv_number (x : Imm12) :
    decode (BitVec.ofNat 16 (0xD000 + x.toNat)) = .rsvD x ∧ decode (BitVec.ofNat 16 (0xE000 + x.toNat)) = .rsvE x ∧
      decode (BitVec.ofNat 16 (0xF000 + x.toNat)) = .rsvF x := by
  have hD := bits_ofNat_eq (m := 0xD000 + x.toNat) 12 4 13 (by decide) (by omega)
  have hE := bits_ofNat_eq (m := 0xE000 + x.toNat) 12 4 14 (by decide) (by omega)
  have hF := bits_ofNat_eq (m := 0xF000 + x.toNat) 12 4 15 (by decide) (by omega)
  have hx : ∀ c, c % 2 ^ 12 = 0 → bits (BitVec.ofNat 16 (c + x.toNat)) 0 12 = x := fun c hc => by
    rw [bits_ofNat_eq 0 12 x.toNat (by decide) (by omega)]
    simp
  refine ⟨?_, ?_, ?_⟩
  · simp [decode, hD, hx]
  · simp [decode, hE, hx]
  · simp [decode, hF, hx]

/-- A word with bit 15 clear and bit 14 or bit 10 set (30_encoding.md R73). -/
theorem decode_rsvNote_number (b14 : BitVec 1) (d : DurCode) (b10 : BitVec 1) (p : DurCode) (n : BitVec 7)
    (h : ¬(b14 = 0 ∧ b10 = 0)) :
    decode (BitVec.ofNat 16 (Instr.rsvNote b14 d b10 p n).number) = .rsvNote b14 d b10 p n := by
  simp only [Instr.number]
  rw [decode_of_toNat_lt (by rw [BitVec.toNat_ofNat]; omega), decodeNoteClass,
    bits_ofNat_eq 14 1 b14.toNat (by decide) (by omega), bits_ofNat_eq 10 1 b10.toNat (by decide) (by omega),
    bits_ofNat_eq 11 3 d.toNat (by decide) (by omega), bits_ofNat_eq 7 3 p.toNat (by decide) (by omega),
    bits_ofNat_eq 0 7 n.toNat (by decide) (by omega)]
  simp only [BitVec.ofNat_toNat, BitVec.setWidth_eq, if_neg h]

/-- Settles O1: the encoded word is the sum of its fields, and each class of words gives its fields back. -/
theorem decodeOfEncode : Obligations.DecodeOfEncode := by
  intro i hwf
  rw [encode_eq_ofNat]
  cases i with
  | note d p n =>
    have hn : n.toNat ≠ 0 := fun h => by simp [Instr.wf, BitVec.eq_of_toNat_eq (y := 0#7) h] at hwf
    simpa [hn, Instr.number] using noteWordFields d.toNat p.toNat n.toNat d.isLt p.isLt n.isLt
  | rest d p => simpa [Instr.number] using noteWordFields d.toNat p.toNat 0 d.isLt p.isLt (by decide)
  | rsvNote b14 d b10 p n =>
    refine decode_rsvNote_number b14 d b10 p n fun ⟨h14, h10⟩ => ?_
    simp [Instr.wf, h14, h10] at hwf
  | effectInvalid e a =>
    exact (decode_effect_number e a).trans (decodeEffect_invalid a (by simpa [Instr.wf] using hwf))
  | pause t => exact decode_effect_number 1 t
  | jump p => exact decode_effect_number 2 p
  | instr k => exact decode_effect_number 3 k
  | alevel l => exact decode_effect_number 4 l
  | slevel l => exact decode_effect_number 5 l
  | speed m => exact decode_effect_number 6 m
  | tick j x => simpa [Instr.number] using timingWordFields.1 j.toNat x.toNat j.isLt x.isLt
  | attack k => exact Machine.decode_attackWord k
  | decay k => simpa [Instr.number] using (timingWordFields.2 k.toNat k.isLt).2.1
  | release k => exact Machine.decode_releaseWord k
  | rsvD x => exact (decode_rsv_number x).1
  | rsvE x => exact (decode_rsv_number x).2.1
  | rsvF x => exact (decode_rsv_number x).2.2

/-! ### Encoding a decoded word -/

/-- What `decode` owes the word of number `m`: a well-formed instruction whose fields add up to `m`. -/
def Instr.Represents (i : Instr) (m : Nat) : Prop := i.wf = true ∧ i.number = m

theorem bits_eq_ofNat_iff (w : Word) (lo len c : Nat) :
    bits w lo len = BitVec.ofNat len c ↔ w.toNat / 2 ^ lo % 2 ^ len = c % 2 ^ len := by
  rw [← BitVec.toNat_inj, bits_toNat, BitVec.toNat_ofNat]

theorem decodeEffect_represents (e : BitVec 4) (a : Byte) :
    (decodeEffect e a).Represents (0x8000 + e.toNat * 2 ^ 8 + a.toNat) := by
  unfold decodeEffect
  split_ifs with h1 h2 h3 h4 h5 h6
  case neg =>
    refine ⟨?_, rfl⟩
    have h0 : e = 0 ∨ 7 ≤ e.toNat := by bv_omega
    simpa [Instr.wf] using h0
  all_goals subst e; exact ⟨rfl, rfl⟩

theorem decodeNoteClass_represents {w : Word} (h : w.toNat < 0x8000) : (decodeNoteClass w).Represents w.toNat := by
  have hbit : ∀ lo, bits w lo 1 = 0 ↔ w.toNat / 2 ^ lo % 2 = 0 := fun lo => bits_eq_ofNat_iff w lo 1 0
  have hnumber : bits w 0 7 = 0 ↔ w.toNat / 2 ^ 0 % 2 ^ 7 = 0 := bits_eq_ofNat_iff w 0 7 0
  unfold decodeNoteClass
  split_ifs with hclear hrest
  · rw [hbit, hbit] at hclear
    rw [hnumber] at hrest
    refine ⟨rfl, ?_⟩
    simp only [Instr.number, bits_toNat]
    omega
  · rw [hbit, hbit] at hclear
    refine ⟨by simpa [Instr.wf] using hrest, ?_⟩
    simp only [Instr.number, bits_toNat]
    omega
  · refine ⟨?_, ?_⟩
    · simp only [Instr.wf, Bool.or_eq_true, beq_iff_eq]
      bv_omega
    · simp only [Instr.number, bits_toNat]
      omega

theorem decode_represents (w : Word) : (decode w).Represents w.toNat := by
  have hclass : ∀ c < 16, bits w 12 4 = BitVec.ofNat 4 c ↔ w.toNat / 2 ^ 12 = c := fun c hc => by
    rw [bits_eq_ofNat_iff]
    omega
  have htime : ∀ c < 16, bits w 12 4 = BitVec.ofNat 4 c → c * 2 ^ 12 + (bits w 0 12).toNat = w.toNat :=
    fun c hc h => by
      have htop := (hclass c hc).mp h
      rw [bits_toNat]
      omega
  by_cases hnote : w.toNat < 0x8000
  · rw [decode_of_toNat_lt hnote]
    exact decodeNoteClass_represents hnote
  unfold decode
  split_ifs with h8 h9 hA hB hC hD hE hF
  · have htop := (hclass 8 (by decide)).mp h8
    have heffect := decodeEffect_represents (bits w 8 4) (bits w 0 8)
    rw [bits_toNat, bits_toNat] at heffect
    convert heffect using 1
    omega
  · have htop := (hclass 9 (by decide)).mp h9
    refine ⟨rfl, ?_⟩
    simp only [Instr.number, bits_toNat]
    omega
  · exact ⟨rfl, htime 10 (by decide) hA⟩
  · exact ⟨rfl, htime 11 (by decide) hB⟩
  · exact ⟨rfl, htime 12 (by decide) hC⟩
  · exact ⟨rfl, htime 13 (by decide) hD⟩
  · exact ⟨rfl, htime 14 (by decide) hE⟩
  · exact ⟨rfl, htime 15 (by decide) hF⟩
  · have n8 := (hclass 8 (by decide)).not.mp h8
    have n9 := (hclass 9 (by decide)).not.mp h9
    have n10 := (hclass 10 (by decide)).not.mp hA
    have n11 := (hclass 11 (by decide)).not.mp hB
    have n12 := (hclass 12 (by decide)).not.mp hC
    have n13 := (hclass 13 (by decide)).not.mp hD
    have n14 := (hclass 14 (by decide)).not.mp hE
    have n15 := (hclass 15 (by decide)).not.mp hF
    omega

/-- Settles O2: the decoded instruction is well formed and its fields add up to the word. -/
theorem encodeOfDecode : Obligations.EncodeOfDecode := by
  intro w
  obtain ⟨hwf, hnumber⟩ := decode_represents w
  exact ⟨hwf, by rw [encode_eq_ofNat, hnumber, BitVec.ofNat_toNat, BitVec.setWidth_eq]⟩

/-! ### The reserved words (30_encoding.md R84) -/

/-- The reserved forms among the well-formed instructions, by their number. -/
theorem Instr.isReserved_iff_number {i : Instr} (h : i.wf = true) :
    i.isReserved = true ↔
      0xD000 ≤ i.number ∨ (i.number / 2 ^ 15 % 2 = 0 ∧ (i.number / 2 ^ 14 % 2 = 1 ∨ i.number / 2 ^ 10 % 2 = 1)) := by
  cases i with
  | rsvNote b14 d b10 p n =>
    simp only [Instr.wf, Bool.or_eq_true, beq_iff_eq] at h
    have hset : b14.toNat = 1 ∨ b10.toNat = 1 := by bv_omega
    simp only [Instr.isReserved, Instr.number, true_iff]
    omega
  | _ =>
    simp only [Instr.isReserved, Instr.number, true_iff, Bool.false_eq_true, false_iff]
    omega

theorem getLsbD_eq_true_iff (w : Word) (i : Nat) : w.getLsbD i = true ↔ w.toNat / 2 ^ i % 2 = 1 := by
  simp [BitVec.getLsbD, Nat.testBit_eq_decide_div_mod_eq]

/-- Settles O6: the word's instruction is well formed with the word's number, and the reserved forms are known by their
numbers. -/
theorem reservedWordsExactly : Obligations.ReservedWordsExactly := by
  intro w
  obtain ⟨hwf, hnumber⟩ := decode_represents w
  have h15 : w.getLsbD 15 = false ↔ w.toNat / 2 ^ 15 % 2 = 0 := by
    rw [← Bool.not_eq_true, getLsbD_eq_true_iff]
    omega
  rw [isReservedWord, Instr.isReserved_iff_number hwf, hnumber, h15, getLsbD_eq_true_iff, getLsbD_eq_true_iff]

/-! ### Words written out in the spec (30_encoding.md R88, 95_test_vectors.md §2.1) -/

/-- Settles O7: each of the thirteen fixed words decodes by evaluation. -/
theorem writtenOutWordsDecode : Obligations.WrittenOutWordsDecode := by
  unfold Obligations.WrittenOutWordsDecode
  decide

end Sys2Proof
end

section
/-! PROOFS. What a word does, said once: the state after it, as one write of the voice being stepped beside the speed,
the fault record and the diagnostic stream (40_sequencer_step.md R100, R103). -/

namespace Sys2Proof.Machine

open Sys2Proof.Claims

/-! ### The parts of the state a word writes -/

/-- The voice with its cursor past the word being executed (40_sequencer_step.md R101). -/
def Voice.advanced (v : Voice) : Voice := { v with cur := v.cur + 1 }

/-- A reserved word on the voice being stepped, by `RESERVED_POLICY` (40_sequencer_step.md R104). -/
def reservedVoice (c : Config) (speed : Byte) (w : Word) (v : Voice) : Voice :=
  match c.reservedPolicy with
  | .refuse => v
  | .asNote => noteVoice c speed (asNoteDur w) (asNotePause w) (asNoteNumber w) v.advanced

/-- The voice being stepped after a word: a function of the parameters, `N_PAT`, the speed and that voice alone. -/
def wordVoice (c : Config) (nPat : Nat) (speed : Byte) (v : Voice) : Instr → Voice
  | .note d p n => noteVoice c speed d p n v.advanced
  | .rest d p => noteVoice c speed d p 0 v.advanced
  | .rsvNote b14 d b10 p n => reservedVoice c speed (encode (.rsvNote b14 d b10 p n)) v
  | .effectInvalid _ _ => v.advanced
  | .pause t => { v.advanced with countdown := pauseCountdown t speed }
  | .jump p => if p.toNat < nPat then { v with pat := p, cur := 0 } else v.advanced
  | .instr k => { v.advanced with instr := if k.toNat < nInstr c then some k else v.instr }
  | .alevel l => { v.advanced with atkLevel := storedLevel c l }
  | .slevel l => { v.advanced with susLevel := storedLevel c l }
  | .speed _ => v.advanced
  | .tick i x => { v.advanced with ticks := v.ticks.setIfInBounds i.toNat x }
  | .attack k => { v.advanced with atkTime := BitVec.ofNat 32 (msToSamples c k) }
  | .decay k => { v.advanced with decTime := BitVec.ofNat 32 (v.atkTime.toNat + msToSamples c k) }
  | .release k => { v.advanced with relTime := BitVec.ofNat 32 (msToSamples c k) }
  | .rsvD x => reservedVoice c speed (encode (.rsvD x)) v
  | .rsvE x => reservedVoice c speed (encode (.rsvE x)) v
  | .rsvF x => reservedVoice c speed (encode (.rsvF x)) v

/-- The engine's speed after a word (42_effects.md R126). -/
def wordSpeed (speed : Byte) : Instr → Byte
  | .speed m => m
  | _ => speed

/-- The fault record after a word (40_sequencer_step.md R104). -/
def wordFault (c : Config) (k : Option Fault) (i : Instr) : Option Fault :=
  if i.isReserved = true ∧ c.reservedPolicy = .refuse then k.or (some .reservedWord) else k

/-- The kind of the report a word makes, where it makes one (60_exceptions.md R202). -/
def reportKind : Instr → DiagKind
  | .jump _ => .patternIndexRange
  | .instr _ => .instrumentIndexRange
  | .tick _ _ => .tickIndexRange
  | _ => .invalidEffect

/-- The diagnostic records a word adds when voice `v` is stepped: one or none. -/
def wordReports (s : State) (v : VoiceIdx) (i : Instr) : List DiagRecord :=
  if reports s i then [⟨reportKind i, v, encode i, s.tickCounter⟩] else []

/-- The state after instruction `i` at voice `v`. -/
def State.afterWord (s : State) (v : VoiceIdx) (i : Instr) : State :=
  { s.setVoice v (wordVoice s.cfg s.mem.nPat s.speed (s.voice v) i) with
    speed := wordSpeed s.speed i
    faultKind := wordFault s.cfg s.faultKind i
    diag := s.diag ++ wordReports s v i }

/-! ### A word's meaning is `afterWord` -/

theorem wordReports_of_silent {s : State} {i : Instr} (v : VoiceIdx) (h : reports s i = false) :
    wordReports s v i = [] := by
  rw [wordReports, h, if_neg Bool.false_ne_true]

theorem wordReports_of_reports {s : State} {i : Instr} (v : VoiceIdx) (h : reports s i = true) :
    wordReports s v i = [⟨reportKind i, v, encode i, s.tickCounter⟩] := by
  rw [wordReports, if_pos h]

/-- A report made unless `ok`, as the records appended. -/
theorem State.reportUnless_eq (s : State) (ok : Bool) (k : DiagKind) (w : Word) :
    s.reportUnless ok k w = { s with diag := s.diag ++ if !ok then [⟨k, s.active, w, s.tickCounter⟩] else [] } := by
  cases ok
  · rfl
  · simp

/-- A word that reports nothing, is not reserved and is not SPEED only writes its voice. -/
theorem State.afterWord_of_plain {s : State} {i : Instr} (v : VoiceIdx) (hspeed : wordSpeed s.speed i = s.speed)
    (hrsv : i.isReserved = false) (hrep : reports s i = false) :
    s.afterWord v i = s.setVoice v (wordVoice s.cfg s.mem.nPat s.speed (s.voice v) i) := by
  rw [State.afterWord, wordReports_of_silent v hrep, List.append_nil, hspeed, wordFault, hrsv, if_neg (by simp)]
  rfl

/-- A reserved word either records the fault or writes its voice. -/
theorem reservedWord_eq_afterWord {i : Instr} (s : State) (hrsv : i.isReserved = true)
    (hvoice : wordVoice s.cfg s.mem.nPat s.speed (s.voice s.active) i =
      reservedVoice s.cfg s.speed (encode i) (s.voice s.active))
    (hspeed : wordSpeed s.speed i = s.speed) (hrep : reports s i = false) :
    (.next (reservedWord (encode i) s) : Result) = .next (s.afterWord s.active i) := by
  rw [State.afterWord, wordReports_of_silent _ hrep, List.append_nil, hspeed, hvoice]
  obtain ⟨hp, h⟩ | ⟨hp, h⟩ := reservedWord_cases s (encode i)
  · simp only [h, wordFault, hrsv, hp, reservedVoice, State.raiseFault, State.setVoice_voice_self, and_self, if_true]
  · simp only [h, wordFault, hp, reservedVoice, noteClass, State.advanceCursor_onActive_setVoice, reduceCtorEq,
      and_false, if_false]
    rfl

/-- A word that writes its voice and reports unless an index is in range. -/
theorem reportUnless_eq_afterWord (i : Instr) {s t : State} (ok : Bool)
    (ht : t = s.setVoice s.active (wordVoice s.cfg s.mem.nPat s.speed (s.voice s.active) i))
    (hspeed : wordSpeed s.speed i = s.speed) (hrsv : i.isReserved = false) (hrep : reports s i = !ok) :
    (.next (t.reportUnless ok (reportKind i) (encode i)) : Result) = .next (s.afterWord s.active i) := by
  rw [State.afterWord, wordReports, hrep, hspeed, wordFault, hrsv, if_neg (by simp), ht, State.reportUnless_eq]
  rfl

/-- A word that only writes its voice. -/
theorem onActive_eq_afterWord (i : Instr) {s : State} {f : Voice → Voice}
    (hvoice : f (s.voice s.active).advanced = wordVoice s.cfg s.mem.nPat s.speed (s.voice s.active) i)
    (hspeed : wordSpeed s.speed i = s.speed) (hrsv : i.isReserved = false) (hrep : reports s i = false) :
    (.next (s.advanceCursor.onActive f) : Result) = .next (s.afterWord s.active i) := by
  refine reportUnless_eq_afterWord (t := s.advanceCursor.onActive f) i true ?_ hspeed hrsv hrep
  rw [State.advanceCursor_onActive_setVoice, ← hvoice, Voice.advanced]

/-- `exec` of every word completes, in the state `afterWord` of the voice being stepped. -/
theorem exec_eq_afterWord (i : Instr) (s : State) : exec i s = .next (s.afterWord s.active i) := by
  have hwrite := s.advanceCursor_onActive_setVoice
  have hout : ∀ a b : Nat, decide (b ≤ a) = !decide (a < b) := fun a b => by simp only [← decide_not, Nat.not_lt]
  cases i with
  | note d p n => exact onActive_eq_afterWord (.note d p n) rfl rfl rfl rfl
  | rest d p => exact onActive_eq_afterWord (.rest d p) rfl rfl rfl rfl
  | rsvNote b14 d b10 p n => exact reservedWord_eq_afterWord s rfl rfl rfl rfl
  | effectInvalid e a => exact reportUnless_eq_afterWord (.effectInvalid e a) false rfl rfl rfl rfl
  | pause t => exact onActive_eq_afterWord (.pause t) rfl rfl rfl rfl
  | jump p =>
    refine reportUnless_eq_afterWord (.jump p) _ ?_ rfl rfl (hout _ _)
    rw [hwrite]
    by_cases h : p.toNat < s.mem.nPat <;> simp [wordVoice, Voice.advanced, h]
  | instr k =>
    refine reportUnless_eq_afterWord (.instr k) _ ?_ rfl rfl (hout _ _)
    simp [hwrite, wordVoice, Voice.advanced]
  | alevel l => exact onActive_eq_afterWord (.alevel l) rfl rfl rfl rfl
  | slevel l => exact onActive_eq_afterWord (.slevel l) rfl rfl rfl rfl
  | speed m =>
    rw [State.afterWord, wordReports_of_silent _ rfl, List.append_nil]
    rfl
  | tick j x =>
    exact reportUnless_eq_afterWord (.tick j x) _ (hwrite _) rfl rfl (hout _ _)
  | attack k => exact onActive_eq_afterWord (.attack k) rfl rfl rfl rfl
  | decay k => exact onActive_eq_afterWord (.decay k) rfl rfl rfl rfl
  | release k => exact onActive_eq_afterWord (.release k) rfl rfl rfl rfl
  | rsvD x => exact reservedWord_eq_afterWord s rfl rfl rfl rfl
  | rsvE x => exact reservedWord_eq_afterWord s rfl rfl rfl rfl
  | rsvF x => exact reservedWord_eq_afterWord s rfl rfl rfl rfl

end Sys2Proof.Machine
end

section
/-! PROOFS. The words one by one (41_note.md, 42_effects.md, 43_timing_words.md, 40_sequencer_step.md R104): their whole
next states. -/

namespace Sys2Proof.Machine

open Sys2Proof.Claims

variable {s : State} {i : Instr} {v : VoiceIdx}

/-! ### `afterWord` of the families -/

/-- Every word but SPEED and the reserved ones writes its voice and the diagnostic stream only. -/
theorem State.afterWord_of_unreserved (v : VoiceIdx) (hspeed : wordSpeed s.speed i = s.speed)
    (hrsv : i.isReserved = false) : s.afterWord v i =
      { s.setVoice v (wordVoice s.cfg s.mem.nPat s.speed (s.voice v) i) with
        diag := s.diag ++ wordReports s v i } := by
  rw [State.afterWord, hspeed, wordFault, hrsv, if_neg (by simp)]
  rfl

/-- A word with an argument out of range appends its record. -/
theorem State.afterWord_of_reports (v : VoiceIdx) (hspeed : wordSpeed s.speed i = s.speed)
    (hrsv : i.isReserved = false) (hrep : reports s i = true) : s.afterWord v i =
      { s.setVoice v (wordVoice s.cfg s.mem.nPat s.speed (s.voice v) i) with
        diag := s.diag ++ [⟨reportKind i, v, BitVec.ofNat 16 i.number, s.tickCounter⟩] } := by
  rw [State.afterWord_of_unreserved v hspeed hrsv, wordReports_of_reports v hrep, encode_eq_ofNat]

/-- `exec` of a word that only writes its voice. -/
theorem exec_of_plain (hspeed : wordSpeed s.speed i = s.speed) (hrsv : i.isReserved = false)
    (hrep : reports s i = false) :
    exec i s = .next (s.setVoice s.active (wordVoice s.cfg s.mem.nPat s.speed (s.voice s.active) i)) := by
  rw [exec_eq_afterWord, State.afterWord_of_plain _ hspeed hrsv hrep]

/-- `exec` of a word with an argument out of range. -/
theorem exec_of_reports (hspeed : wordSpeed s.speed i = s.speed) (hrsv : i.isReserved = false)
    (hrep : reports s i = true) :
    exec i s = .next { s.setVoice s.active (wordVoice s.cfg s.mem.nPat s.speed (s.voice s.active) i) with
      diag := s.diag ++ [⟨reportKind i, s.active, BitVec.ofNat 16 i.number, s.tickCounter⟩] } := by
  rw [exec_eq_afterWord, State.afterWord_of_reports _ hspeed hrsv hrep]

/-- A reserved word makes no report and leaves the speed; its voice is `reservedVoice` of its word. -/
theorem reserved_parts (h : i.isReserved = true) : (∀ s, reports s i = false) ∧ (∀ m, wordSpeed m i = m) ∧
    ∀ c n m x, wordVoice c n m x i = reservedVoice c m (encode i) x := by
  cases i with
  | rsvNote | rsvD | rsvE | rsvF => exact ⟨fun _ => rfl, fun _ => rfl, fun _ _ _ _ => rfl⟩
  | _ => exact absurd h Bool.false_ne_true

/-- Under `Refuse` a reserved word records the fault and writes nothing else. -/
theorem State.afterWord_of_refused (v : VoiceIdx) (h : i.isReserved = true) (hp : s.cfg.reservedPolicy = .refuse) :
    s.afterWord v i = s.raiseFault .reservedWord := by
  obtain ⟨hrep, hspeed, hvoice⟩ := reserved_parts h
  rw [State.afterWord, wordReports_of_silent v (hrep s), List.append_nil, hspeed, hvoice, reservedVoice, hp,
    State.setVoice_voice_self, wordFault, if_pos ⟨h, hp⟩]
  rfl

/-- Under `AsNote` a reserved word writes its voice as the note-class word of its fields. -/
theorem State.afterWord_of_asNote (v : VoiceIdx) (h : i.isReserved = true) (hp : s.cfg.reservedPolicy = .asNote) :
    s.afterWord v i = s.setVoice v (noteVoice s.cfg s.speed (asNoteDur (encode i)) (asNotePause (encode i))
      (asNoteNumber (encode i)) (s.voice v).advanced) := by
  obtain ⟨hrep, hspeed, hvoice⟩ := reserved_parts h
  rw [State.afterWord, wordReports_of_silent v (hrep s), List.append_nil, hspeed, hvoice, reservedVoice, hp, wordFault,
    if_neg (by simp [hp])]
  rfl

/-! ### Notes and rests (41_note.md) -/

theorem noteVoice_zero (c : Config) (speed : Byte) (d p : DurCode) (x : Voice) : noteVoice c speed d p 0 x =
    { noteOff c x with countdown := noteCountdown (durTicks x p) (durTicks x d) speed } := by
  rw [noteVoice, if_pos rfl]

theorem noteVoice_of_ne_zero (c : Config) (speed : Byte) (d p : DurCode) {n : BitVec 7} (x : Voice) (h : n ≠ 0) :
    noteVoice c speed d p n x =
      { noteOn c n (durTicks x p) x with countdown := noteCountdown (durTicks x p) (durTicks x d) speed } := by
  rw [noteVoice, if_neg h]

theorem bne_zero_eq_decide {n : Nat} (x : BitVec n) : (x != 0) = decide (x ≠ 0) := by
  rw [bne, beq_eq_decide, ← decide_not]

/-- Settles O8: the word writes its voice only, by note-on and the countdown. -/
theorem noteResult : Obligations.NoteResult := by
  intro s d p n hn
  rw [exec_of_plain rfl rfl rfl, wordVoice, noteVoice_of_ne_zero _ _ _ _ _ hn, noteOn, releasedByNoteOn,
    bne_zero_eq_decide]
  rfl

/-- Settles O9: the word writes its voice only, by note-off and the countdown. -/
theorem restResult : Obligations.RestResult := by
  intro s d p
  rw [exec_of_plain rfl rfl rfl, wordVoice, noteVoice_zero, noteOff, releasedByNoteOff, bne_zero_eq_decide]
  rfl

/-- The two bytes' sum times a byte is at most (255 + 255) * 255, so the countdown is exact (41_note.md R113). -/
theorem noteTicks_le (pt nt speed : Byte) : (pt.toNat + nt.toNat) * speed.toNat ≤ 130050 :=
  Nat.mul_le_mul (show pt.toNat + nt.toNat ≤ 510 by omega) (show speed.toNat ≤ 255 by omega)

@[simp] theorem noteCountdown_toNat (pt nt speed : Byte) :
    (noteCountdown pt nt speed).toNat = (pt.toNat + nt.toNat) * speed.toNat :=
  Nat.mod_eq_of_lt ((noteTicks_le pt nt speed).trans_lt (by decide))

/-- Settles O26: both products are below 2^32. -/
theorem countdownsAreExact : Obligations.CountdownsAreExact := by
  intro pt nt speed
  rw [noteCountdown_toNat, pauseCountdown_toNat]
  exact ⟨rfl, noteTicks_le pt nt speed, rfl, byte_mul_le pt speed⟩

/-! ### Effects (42_effects.md) -/

/-- Settles O11: in range the word writes the program counter, out of range it advances the cursor and reports. -/
theorem jumpResult : Obligations.JumpResult := by
  intro s p
  split
  · rename_i h
    have hrep : reports s (.jump p) = false := decide_eq_false (Nat.not_le.mpr h)
    rw [exec_of_plain rfl rfl hrep, wordVoice, if_pos h]
  · rename_i h
    have hrep : reports s (.jump p) = true := decide_eq_true (Nat.not_lt.mp h)
    rw [exec_of_reports rfl rfl hrep, wordVoice, if_neg h]
    rfl

/-- Settles O12: in range the word writes the selection, out of range it only advances the cursor and reports. -/
theorem instrResult : Obligations.InstrResult := by
  intro s k
  split
  · rename_i h
    have hrep : reports s (.instr k) = false := decide_eq_false (Nat.not_le.mpr h)
    rw [exec_of_plain rfl rfl hrep, wordVoice, nInstr, if_pos h]
    rfl
  · rename_i h
    have hrep : reports s (.instr k) = true := decide_eq_true (Nat.not_lt.mp h)
    rw [exec_of_reports rfl rfl hrep, wordVoice, nInstr, if_neg h]
    rfl

/-- Settles O13: each word writes its level and the cursor. -/
theorem levelResults : Obligations.LevelResults := by
  intro s l
  rw [exec_of_plain (i := .alevel l) rfl rfl rfl, exec_of_plain (i := .slevel l) rfl rfl rfl]
  exact ⟨rfl, rfl⟩

/-- Settles O14: the word is the cursor's advance and one write of the engine's speed. -/
theorem speedResult : Obligations.SpeedResult := fun s m => by
  rw [exec_speed, State.advanceCursor, State.onActive, State.activeVoice]

/-- Settles O15: the word advances the cursor and reports. -/
theorem invalidEffectResult : Obligations.InvalidEffectResult := by
  intro s e a _
  rw [exec_of_reports rfl rfl rfl]
  rfl

/-! ### Timing words (43_timing_words.md) -/

/-- Settles O16: in range the word writes one entry of the table, out of range none, and it reports. -/
theorem tickResult : Obligations.TickResult := by
  intro s i x
  refine ⟨fun h => ⟨(s.voice s.active).ticks.setIfInBounds i.toNat x, ?_, fun j hj => ?_⟩, fun h => ?_⟩
  · have hrep : reports s (.tick i x) = false := decide_eq_false (Nat.not_le.mpr h)
    rw [exec_of_plain rfl rfl hrep]
    rfl
  · simp [Vector.getElem_setIfInBounds, eq_comm]
  · have hticks : (s.voice s.active).ticks.setIfInBounds i.toNat x = (s.voice s.active).ticks :=
      Vector.setIfInBounds_eq_of_size_le h
    have hrep : reports s (.tick i x) = true := decide_eq_true h
    rw [exec_of_reports rfl rfl hrep, wordVoice, hticks]
    rfl

/-- Settles O18: the word writes the sum, and two addends below 2^31 do not wrap. -/
theorem decayResult : Obligations.DecayResult := by
  intro s k
  refine ⟨_, ?_, rfl, fun hscale hatk => ?_⟩
  · rw [exec_of_plain rfl rfl rfl]
    rfl
  · have hk := msToSamples_lt hscale k
    rw [BitVec.toNat_ofNat]
    omega

/-! ### Reserved words (40_sequencer_step.md R104) -/

/-- Settles O19: the fault record is written, the first fault kept. -/
theorem reservedWordRefused : Obligations.ReservedWordRefused := by
  intro i s h hp
  rw [exec_eq_afterWord, State.afterWord_of_refused _ h hp, State.raiseFault]
  cases s.faultKind <;> rfl

theorem bits_eq_ofNat (w : Word) (lo len : Nat) : bits w lo len = BitVec.ofNat len (w.toNat / 2 ^ lo) :=
  BitVec.eq_of_toNat_eq (by rw [bits_toNat, BitVec.toNat_ofNat])

/-- Settles O20: the word is its own encoding, and the note-class word of its fields writes the same voice. -/
theorem reservedWordAsNote : Obligations.ReservedWordAsNote := by
  intro w s h hp
  have hd := bits_eq_ofNat w 11 3
  have hq := bits_eq_ofNat w 7 3
  have hn : bits w 0 7 = BitVec.ofNat 7 w.toNat := by simpa using bits_eq_ofNat w 0 7
  have hzero : w.toNat % 2 ^ 7 = 0 ↔ bits w 0 7 = 0 := by
    rw [← BitVec.toNat_inj, bits_toNat, pow_zero, Nat.div_one]
    rfl
  refine ⟨_, exec_eq_afterWord _ s, ?_⟩
  rw [State.afterWord_of_asNote _ h hp, (encodeOfDecode w).2, asNoteDur, asNotePause, asNoteNumber, ← hd, ← hq, ← hn]
  split
  · rename_i hr
    rw [exec_of_plain rfl rfl rfl, wordVoice, hzero.mp hr]
  · rw [exec_of_plain rfl rfl rfl, wordVoice]

end Sys2Proof.Machine
end

section
/-! PROOFS. Frames and rules over all words: what a word writes (10_state.md R49), what it leaves (40_sequencer_step.md
R100), its reports (R109) and the program counter after it (10_state.md R37). -/

namespace Sys2Proof.Machine

open Sys2Proof.Claims

/-! ### Reading the state after a word -/

section

variable (s : State) (v : VoiceIdx) (i : Instr)

@[simp] theorem State.afterWord_voice_same :
    (s.afterWord v i).voice v = wordVoice s.cfg s.mem.nPat s.speed (s.voice v) i := s.setVoice_voice_same v _

theorem State.afterWord_voice_other {u : VoiceIdx} (h : u ≠ v) : (s.afterWord v i).voice u = s.voice u :=
  s.setVoice_voice_other h _

@[simp] theorem State.afterWord_faultKind : (s.afterWord v i).faultKind = wordFault s.cfg s.faultKind i := rfl
@[simp] theorem State.afterWord_diag : (s.afterWord v i).diag = s.diag ++ wordReports s v i := rfl

theorem wordFault_of_unreserved {i : Instr} (c : Config) (k : Option Fault) (h : i.isReserved = false) :
    wordFault c k i = k := by
  rw [wordFault, h, if_neg (by simp)]

theorem wordSpeed_of_ne_speed {i : Instr} (m : Byte) (h : ∀ n, i ≠ .speed n) : wordSpeed m i = m := by
  cases i with
  | speed n => exact absurd rfl (h n)
  | _ => rfl

theorem other_ne (v : VoiceIdx) : other v ≠ v := by
  cases v <;> decide

end

/-! ### What a word writes of its voice -/

theorem noteVoice_same (c : Config) (speed : Byte) (d p : DurCode) (n : BitVec 7) (v : Voice) (f : VoiceField) :
    f ∈ [.freq, .age, .released, .relMark, .countdown, .cur] ∨ f.Same v (noteVoice c speed d p n v.advanced) := by
  unfold noteVoice
  split <;> cases f <;> simp [VoiceField.Same, noteOn, noteOff, Voice.advanced]

theorem reservedVoice_same (c : Config) (speed : Byte) (w : Word) (v : Voice) (f : VoiceField) :
    f ∈ [.freq, .age, .released, .relMark, .countdown, .cur] ∨ f.Same v (reservedVoice c speed w v) := by
  unfold reservedVoice
  split
  · exact .inr (by cases f <;> rfl)
  · exact noteVoice_same c speed _ _ _ v f

/-- The table of 10_state.md R49 against `wordVoice`, field by field. -/
theorem wordVoice_same (c : Config) (nPat : Nat) (speed : Byte) (v : Voice) (i : Instr) (f : VoiceField) :
    f ∈ writtenFields i ∨ f.Same v (wordVoice c nPat speed v i) := by
  cases i with
  | note d p n => exact noteVoice_same c speed d p n v f
  | rest d p =>
    simp only [wordVoice, noteVoice_zero]
    cases f <;> simp [VoiceField.Same, writtenFields, noteOff, Voice.advanced]
  | rsvNote b14 d b10 p n => exact reservedVoice_same c speed _ v f
  | rsvD x => exact reservedVoice_same c speed _ v f
  | rsvE x => exact reservedVoice_same c speed _ v f
  | rsvF x => exact reservedVoice_same c speed _ v f
  | jump p =>
    simp only [wordVoice]
    split <;> cases f <;> simp [VoiceField.Same, writtenFields, Voice.advanced]
  | _ => cases f <;> simp [VoiceField.Same, writtenFields, wordVoice, Voice.advanced]

/-- Settles O21: field by field, by the table. -/
theorem wordWritesOnlyItsFields : Obligations.WordWritesOnlyItsFields := by
  intro i s t f hexec hf
  obtain rfl := Host.Outcome.next.inj ((exec_eq_afterWord i s).symm.trans hexec)
  rw [State.afterWord_voice_same]
  exact (wordVoice_same _ _ _ _ i f).resolve_left hf

/-! ### What a word leaves outside its voice -/

/-- Settles O22: a word writes its voice, the speed, the fault record and the stream, and each of the last three only in
its family. -/
theorem wordFrameOutsideItsVoice : Obligations.WordFrameOutsideItsVoice := by
  intro i s t hexec
  obtain rfl := Host.Outcome.next.inj ((exec_eq_afterWord i s).symm.trans hexec)
  refine ⟨s.afterWord_voice_other _ i (other_ne _),
    ⟨fun _ _ => rfl, fun _ => rfl, rfl, fun _ _ => rfl, fun _ => rfl, rfl⟩, ⟨rfl, rfl, rfl, rfl, rfl, rfl, rfl⟩,
    wordSpeed_of_ne_speed s.speed, fun h => ?_,
    wordFault_of_unreserved s.cfg s.faultKind⟩
  rw [State.afterWord_diag, wordReports_of_silent _ h, List.append_nil]

/-! ### Reports -/

theorem reportKind_code (s : State) {i : Instr} (h : reports s i = true) : i.isReserved = false ∧
    ((reportKind i).code = 1 ↔ ∃ e a, i = .effectInvalid e a) ∧ ((reportKind i).code = 2 ↔ ∃ p, i = .jump p) ∧
      ((reportKind i).code = 3 ↔ ∃ n, i = .instr n) ∧ ((reportKind i).code = 4 ↔ ∃ n x, i = .tick n x) := by
  cases i with
  | effectInvalid e a => simp [reportKind, DiagKind.code, Instr.isReserved]
  | jump p => simp [reportKind, DiagKind.code, Instr.isReserved]
  | instr k => simp [reportKind, DiagKind.code, Instr.isReserved]
  | tick j x => simp [reportKind, DiagKind.code, Instr.isReserved]
  | _ => exact absurd h Bool.false_ne_true

/-- Settles O23: the word's one record has its kind, and no reporting word is a reserved one. -/
theorem errorsAreReportedAndComplete : Obligations.ErrorsAreReportedAndComplete := by
  intro i s _ h
  obtain ⟨hrsv, hcodes⟩ := reportKind_code s h
  refine ⟨_, reportKind i, exec_eq_afterWord i s, wordFault_of_unreserved _ _ hrsv, ?_, hcodes⟩
  rw [State.afterWord_diag, wordReports_of_reports _ h]

/-! ### The program counter -/

theorem noteVoice_pc (c : Config) (speed : Byte) (d p : DurCode) (n : BitVec 7) (x : Voice) :
    (noteVoice c speed d p n x).pat = x.pat ∧ (noteVoice c speed d p n x).cur = x.cur := by
  unfold noteVoice
  split <;> exact ⟨rfl, rfl⟩

/-- A reserved word keeps the pattern, and runs as a note-class word only under `AsNote`. -/
theorem reservedVoice_pc (c : Config) (speed : Byte) (w : Word) (v : Voice) :
    (reservedVoice c speed w v).pat = v.pat ∧
      (c.reservedPolicy = .refuse → (reservedVoice c speed w v).cur = v.cur) ∧
      (c.reservedPolicy = .asNote → (reservedVoice c speed w v).cur = v.cur + 1) := by
  cases hp : c.reservedPolicy with
  | refuse => simp [reservedVoice, hp]
  | asNote => simp [reservedVoice, hp, noteVoice_pc, Voice.advanced]

/-- A word that is no JUMP in range keeps the pattern, and advances the cursor unless it is a reserved one. -/
theorem wordVoice_pc (c : Config) (nPat : Nat) (speed : Byte) (v : Voice) {i : Instr}
    (h : ∀ p, i = .jump p → nPat ≤ p.toNat) : (wordVoice c nPat speed v i).pat = v.pat ∧
      (i.isReserved = false ∨ c.reservedPolicy = .asNote → (wordVoice c nPat speed v i).cur = v.cur + 1) := by
  have hnote : ∀ d p n, (noteVoice c speed d p n v.advanced).pat = v.pat ∧
      (noteVoice c speed d p n v.advanced).cur = v.cur + 1 := fun d p n => noteVoice_pc c speed d p n v.advanced
  have hrsv : i.isReserved = true → (wordVoice c nPat speed v i).pat = v.pat ∧
      (i.isReserved = false ∨ c.reservedPolicy = .asNote → (wordVoice c nPat speed v i).cur = v.cur + 1) := fun hi => by
    obtain ⟨hpat, -, hcur⟩ := reservedVoice_pc c speed (encode i) v
    rw [(reserved_parts hi).2.2, hi]
    exact ⟨hpat, fun hp => hcur (hp.resolve_left (by decide))⟩
  cases i with
  | note d p n => exact ⟨(hnote d p n).1, fun _ => (hnote d p n).2⟩
  | rest d p => exact ⟨(hnote d p 0).1, fun _ => (hnote d p 0).2⟩
  | jump p =>
    rw [wordVoice, if_neg (Nat.not_lt.mpr (h p rfl))]
    exact ⟨rfl, fun _ => rfl⟩
  | rsvNote | rsvD | rsvE | rsvF => exact hrsv rfl
  | _ => exact ⟨rfl, fun _ => rfl⟩

/-- Settles O25: a JUMP in range writes both, every other word but a refused one advances the cursor. -/
theorem programCounterAfterWord : Obligations.ProgramCounterAfterWord := by
  intro i s t hexec
  obtain rfl := Host.Outcome.next.inj ((exec_eq_afterWord i s).symm.trans hexec)
  rw [State.afterWord_voice_same]
  refine ⟨?_, fun h => (wordVoice_pc _ _ _ _ h).1, fun h => (wordVoice_pc _ _ _ _ h).2, fun hrsv hp => ?_⟩
  · rintro p rfl hp
    rw [wordVoice, if_pos hp]
    exact ⟨rfl, rfl⟩
  · rw [(reserved_parts hrsv).2.2]
    exact (reservedVoice_pc _ _ _ _).2.1 hp

end Sys2Proof.Machine
end

section
/-! PROOFS. What a step does, said once: sequencer steps, sequencer phases and invocations as functions of the state,
and the cases of a step (46_tick_loop.md R185 to R197, 60_exceptions.md R209). -/

namespace Sys2Proof.Machine

open Sys2Proof.Claims

/-! ### Sequencer steps, phases and invocations answer a next state -/

/-- The state after the sequencer step of voice `v` (40_sequencer_step.md R107). -/
def State.afterStep (s : State) (v : VoiceIdx) : State :=
  match s.fetch v with
  | none => s.raiseFault .cursorOverrun
  | some w => s.afterWord v (decode w)

/-- The decrement that a fault stops (46_tick_loop.md R187, R196). -/
def State.countDown (s : State) (v : VoiceIdx) : State := if s.faulted then s else s.decrement v

/-- The state after the sequencer phase of voice `v` (46_tick_loop.md R187). -/
def State.afterPhase (s : State) (v : VoiceIdx) : State :=
  (if (s.voice v).countdown = 0 then s.afterStep v else s).countDown v

/-- Synthesis, which a fault stops (46_tick_loop.md R189, R196). -/
def State.finish (s : State) : State := if s.faulted then s else s.synthesize

/-- The state after an executed invocation (46_tick_loop.md R185). -/
def State.afterInvocation (s : State) : State :=
  if (s.afterPhase .v0).faulted then s.afterPhase .v0 else ((s.afterPhase .v0).afterPhase .v1).finish

section

variable (s : State) (v : VoiceIdx)

theorem execAs_eq_afterWord (i : Instr) : execAs v i s = .next (s.afterWord v i) := by
  rw [execAs, exec_eq_afterWord, andThen_next]
  rfl

theorem seqStep_eq_afterStep : seqStep v s = .next (s.afterStep v) := by
  unfold State.afterStep
  cases h : s.fetch v with
  | none => exact seqStep_overrun s h
  | some w => exact (seqStep_fetched s h).trans (execAs_eq_afterWord s v _)

/-- The answer that a fault stops, as a state. -/
theorem next_countDown : (if s.faulted then .next s else .next (s.decrement v) : Result) = .next (s.countDown v) :=
  (apply_ite _ _ _ _).symm

theorem next_finish : (if s.faulted then .next s else .next s.synthesize : Result) = .next s.finish :=
  (apply_ite _ _ _ _).symm

theorem seqPhase_eq_afterPhase : seqPhase v s = .next (s.afterPhase v) := by
  rw [seqPhase, seqStep_eq_afterStep, ← apply_ite Host.Outcome.next, andThen_next, next_countDown, State.afterPhase]

theorem runInvocation_eq_afterInvocation : runInvocation s = .next s.afterInvocation := by
  rw [runInvocation, seqPhase_eq_afterPhase, andThen_next, seqPhase_eq_afterPhase, andThen_next, next_finish,
    ← apply_ite Host.Outcome.next, State.afterInvocation]

end

/-! ### What holds after a phase and after an invocation -/

section

variable {P : State → Prop} {s : State} {v : VoiceIdx}

theorem State.afterStep_induct (hraise : s.fetch v = none → P (s.raiseFault .cursorOverrun))
    (hword : ∀ w, s.fetch v = some w → P (s.afterWord v (decode w))) : P (s.afterStep v) := by
  unfold State.afterStep
  split
  · exact hraise ‹_›
  · exact hword _ ‹_›

theorem State.not_faulted_iff : ¬s.faulted = true ↔ s.faultKind = none := by
  simp [State.faulted]

theorem State.countDown_induct (hs : P s) (hdecrement : s.faultKind = none → P (s.decrement v)) :
    P (s.countDown v) := by
  unfold State.countDown
  split
  · exact hs
  · exact hdecrement (State.not_faulted_iff.mp ‹_›)

/-- What holds of a state and is kept by the step and the decrement of voice `v` holds after its phase. -/
theorem State.afterPhase_induct (hs : P s) (hraise : s.fetch v = none → P (s.raiseFault .cursorOverrun))
    (hword : ∀ w, s.fetch v = some w → P (s.afterWord v (decode w)))
    (hdecrement : ∀ t, P t → P (t.decrement v)) : P (s.afterPhase v) := by
  have hstep : P (if (s.voice v).countdown = 0 then s.afterStep v else s) := by
    split
    · exact State.afterStep_induct hraise hword
    · exact hs
  exact State.countDown_induct hstep fun _ => hdecrement _ hstep

/-- What both phases and synthesis keep holds after an invocation. -/
theorem State.afterInvocation_induct (h0 : P (s.afterPhase .v0)) (h1 : ∀ t, P t → P (t.afterPhase .v1))
    (hsynth : ∀ t, P t → P t.synthesize) : P s.afterInvocation := by
  unfold State.afterInvocation State.finish
  split
  · exact h0
  · split
    · exact h1 _ h0
    · exact hsynth _ (h1 _ h0)

end

/-! ### A step is one event -/

section

variable {s t : State}

/-- The state with the next event taken off the schedule. -/
def State.popped (s : State) : State := { s with schedule := s.schedule.tail }

theorem State.popped_of_nil (h : s.schedule = []) : s.popped = s := by
  cases s
  cases h
  rfl

theorem State.popped_of_cons {e : Event} {rest : List Event} (h : s.schedule = e :: rest) :
    s.popped = { s with schedule := rest } := by
  rw [State.popped, h, List.tail_cons]

theorem strobeNext_of_cons {rest : List Event} (h : s.schedule = .strobe :: rest) : s.StrobeNext :=
  .inr (by rw [h, List.head?_cons])

theorem step_of_event {e : Event} {rest : List Event} (h : s.schedule = e :: rest) :
    step s = applyEvent e { s with schedule := rest } := by
  rw [step, nextEvent, h]

/-- A strobe, listed or by an empty schedule (log 2), is a tick. -/
theorem step_of_strobeNext (h : s.StrobeNext) : step s = tick s.popped := by
  obtain hnil | hhead := h
  · rw [State.popped_of_nil hnil, step, nextEvent, hnil]
    rfl
  · obtain ⟨rest, hrest⟩ := List.head?_eq_some_iff.mp hhead
    rw [step_of_event hrest, State.popped, hrest]
    rfl

/-- An executed strobe is an invocation. -/
theorem step_of_runs (h : s.StrobeNext) (hr : s.Runs) : step s = .next s.popped.afterInvocation := by
  obtain ⟨hf, hl, hready⟩ := hr
  rw [step_of_strobeNext h, tick_runs s.popped hf hl hready, runInvocation_eq_afterInvocation]

/-- The cases of a step that answers a next state (46_tick_loop.md R186, R193; 70_reset_and_hazards.md R231, R233). -/
inductive StepCase (s : State) : State → Prop where
  | skip (next : s.StrobeNext) (unfaulted : s.faultKind = none) (loaded : s.songLoaded = true)
      (ready : s.ready = true) : StepCase s s.popped
  | noSong (next : s.StrobeNext) (unfaulted : s.faultKind = none) (unloaded : s.songLoaded = false) :
      StepCase s (s.popped.raiseFault .noSong)
  | run (next : s.StrobeNext) (runs : s.Runs) : StepCase s s.popped.afterInvocation
  | consume (next : s.schedule.head? = some .consume) : StepCase s s.popped.clearReady
  | load (m : Memory) (sp : StartPattern) (next : s.schedule.head? = some (.loadSong m sp))
      (config : configAdmitted s.cfg = true) (song : songAdmitted s.cfg m sp = true) : StepCase s (s.popped.load m sp)
  | construct (next : s.schedule.head? = some .construct) (config : configAdmitted s.cfg = true) :
      StepCase s { State.construct s.cfg with schedule := s.schedule.tail }

/-- What a strobe of an unfaulted block does. -/
theorem strobe_cases (h : s.StrobeNext) (hf : s.faultKind = none) : ∃ t, step s = .next t ∧ StepCase s t := by
  rw [step_of_strobeNext h]
  cases hl : s.songLoaded with
  | false => exact ⟨_, by simp [tick, State.popped, hf, hl], .noSong h hf hl⟩
  | true =>
    cases hr : s.ready with
    | false => exact ⟨_, (tick_runs s.popped hf hl hr).trans (runInvocation_eq_afterInvocation _), .run h ⟨hf, hl, hr⟩⟩
    | true => exact ⟨_, by simp [tick, State.popped, hf, hl, hr], .skip h hf hl hr⟩

theorem step_of_strobeNext_faulted {k : Fault} (h : s.StrobeNext) (hf : s.faultKind = some k) : step s = .fault k := by
  rw [step_of_strobeNext h, tick, State.popped]
  simp only [hf]

/-- Every next state of a step is one of the cases. -/
theorem step_cases (h : step s = .next t) : StepCase s t := by
  have hstrobe (hs : s.StrobeNext) : StepCase s t := by
    cases hf : s.faultKind with
    | none =>
      obtain ⟨u, hu, hcase⟩ := strobe_cases hs hf
      cases hu.symm.trans h
      exact hcase
    | some k => cases (step_of_strobeNext_faulted hs hf).symm.trans h
  cases hs : s.schedule with
  | nil => exact hstrobe (.inl hs)
  | cons e rest =>
    have hpop := State.popped_of_cons hs
    have hhead : s.schedule.head? = some e := by rw [hs, List.head?_cons]
    cases e with
    | strobe => exact hstrobe (.inr hhead)
    | consume =>
      rw [step_of_event hs, ← hpop] at h
      cases h
      exact .consume hhead
    | loadSong m sp =>
      rw [step_of_event hs, ← hpop] at h
      simp only [applyEvent, loadSong] at h
      split at h
      · split at h
        · cases h
          exact .load m sp hhead ‹_› ‹_›
        · cases h
      · cases h
    | construct =>
      rw [step_of_event hs, ← hpop] at h
      simp only [applyEvent, reconstruct] at h
      split at h
      · cases h
        exact .construct hhead ‹_›
      · cases h

end

end Sys2Proof.Machine
end

section
/-! PROOFS. Single invocations (40_sequencer_step.md R102, R107; 46_tick_loop.md R185 to R197): which word runs, what
stops an invocation, and what a strobe answers. -/

namespace Sys2Proof.Machine

open Sys2Proof.Claims

/-! ### One phase, by what its voice does -/

section

variable {s : State} {v : VoiceIdx}

theorem State.countDown_of_faulted (h : s.faulted = true) : s.countDown v = s := if_pos h

theorem State.countDown_of_unfaulted (h : s.faultKind = none) : s.countDown v = s.decrement v :=
  if_neg (State.not_faulted_iff.mpr h)

theorem State.afterPhase_of_waiting (h : (s.voice v).countdown ≠ 0) (hf : s.faultKind = none) :
    s.afterPhase v = s.decrement v := by
  rw [State.afterPhase, if_neg h, State.countDown_of_unfaulted hf]

theorem State.afterPhase_of_fetch {w : Word} (h : (s.voice v).countdown = 0) (hw : s.fetch v = some w) :
    s.afterPhase v = (s.afterWord v (decode w)).countDown v := by
  rw [State.afterPhase, if_pos h, State.afterStep, hw]

theorem State.afterPhase_of_overrun (h : (s.voice v).countdown = 0) (hw : s.fetch v = none) (hf : s.faultKind = none) :
    s.afterPhase v = { s with faultKind := some .cursorOverrun } := by
  have hraise : s.raiseFault .cursorOverrun = { s with faultKind := some .cursorOverrun } := by
    rw [State.raiseFault, hf, Option.none_or]
  have hstep : s.afterStep v = { s with faultKind := some .cursorOverrun } := by rw [State.afterStep, hw, hraise]
  rw [State.afterPhase, if_pos h, hstep]
  exact State.countDown_of_faulted rfl

theorem State.fetch_eq_none_iff : s.fetch v = none ↔ s.mem.patLen (s.voice v).pat.toNat ≤ (s.voice v).cur.toNat := by
  rw [State.fetch, ← Option.not_isSome_iff_eq_none, Memory.patRead_isSome_iff, Nat.not_lt]

theorem State.afterInvocation_of_faulted (h : (s.afterPhase .v0).faulted = true) :
    s.afterInvocation = s.afterPhase .v0 := if_pos h

theorem State.afterInvocation_of_unfaulted (h : (s.afterPhase .v0).faultKind = none) :
    s.afterInvocation = ((s.afterPhase .v0).afterPhase .v1).finish := if_neg (State.not_faulted_iff.mpr h)

theorem State.finish_of_faulted (h : s.faulted = true) : s.finish = s := if_pos h

theorem State.finish_of_unfaulted (h : s.faultKind = none) : s.finish = s.synthesize :=
  if_neg (State.not_faulted_iff.mpr h)

theorem restOfInvocation_eq (t : State) : restOfInvocation t =
    .next (if t.faulted then t else ((t.decrement .v0).afterPhase .v1).finish) := by
  rw [restOfInvocation, seqPhase_eq_afterPhase, andThen_next, next_finish, apply_ite Host.Outcome.next]

/-- Voice 0's word, then the rest of the invocation. -/
theorem State.afterInvocation_of_fetch_v0 {w : Word} (h : s.voice0.countdown = 0) (hw : s.fetch .v0 = some w) :
    .next s.afterInvocation = restOfInvocation (s.afterWord .v0 (decode w)) := by
  rw [restOfInvocation_eq]
  have hphase := State.afterPhase_of_fetch (v := .v0) h hw
  cases hf : (s.afterWord .v0 (decode w)).faulted with
  | true =>
    rw [State.countDown_of_faulted hf] at hphase
    rw [State.afterInvocation_of_faulted (hphase ▸ hf), hphase, if_pos rfl]
  | false =>
    have hnone := State.not_faulted_iff.mp (Bool.eq_false_iff.mp hf)
    rw [State.countDown_of_unfaulted hnone] at hphase
    have : (s.afterPhase .v0).faultKind = none := by rw [hphase]; exact hnone
    rw [State.afterInvocation_of_unfaulted this, hphase, if_neg Bool.false_ne_true]

/-- Voice 1's word, after voice 0 has only counted down. -/
theorem State.afterInvocation_of_fetch_v1 {w : Word} (h0 : s.voice0.countdown ≠ 0) (h1 : s.voice1.countdown = 0)
    (hw : s.fetch .v1 = some w) (hf : s.faultKind = none) :
    s.afterInvocation = (((s.decrement .v0).afterWord .v1 (decode w)).countDown .v1).finish := by
  have hphase := State.afterPhase_of_waiting (v := .v0) h0 hf
  have hnone : (s.afterPhase .v0).faultKind = none := by rw [hphase]; exact hf
  rw [State.afterInvocation_of_unfaulted hnone, hphase,
    State.afterPhase_of_fetch (s := s.decrement .v0) (v := .v1) h1 hw]

/-- Voice 0's word, voice 1 only counting down. -/
theorem State.afterInvocation_of_fetch_v0_waiting {w : Word} (h0 : s.voice0.countdown = 0) (hw : s.fetch .v0 = some w)
    (h1 : s.voice1.countdown ≠ 0) : s.afterInvocation =
      if (s.afterWord .v0 (decode w)).faulted then s.afterWord .v0 (decode w)
      else (((s.afterWord .v0 (decode w)).decrement .v0).decrement .v1).synthesize := by
  refine Host.Outcome.next.inj ((State.afterInvocation_of_fetch_v0 h0 hw).trans ?_)
  rw [restOfInvocation_eq]
  split
  · rfl
  · rename_i hf
    have hnone : ((s.afterWord .v0 (decode w)).decrement .v0).faultKind = none := State.not_faulted_iff.mp hf
    have hwait : (((s.afterWord .v0 (decode w)).decrement .v0).voice .v1).countdown ≠ 0 := by
      rwa [State.decrement_voice_other _ (by decide), State.afterWord_voice_other _ _ _ (by decide)]
    rw [State.afterPhase_of_waiting hwait hnone]
    exact congrArg _ (State.finish_of_unfaulted hnone)

theorem State.afterInvocation_of_overrun_v0 (h : s.voice0.countdown = 0) (hw : s.fetch .v0 = none)
    (hf : s.faultKind = none) : s.afterInvocation = { s with faultKind := some .cursorOverrun } := by
  have hphase := State.afterPhase_of_overrun (v := .v0) h hw hf
  rw [State.afterInvocation_of_faulted (by rw [hphase]; rfl), hphase]

theorem State.afterInvocation_of_overrun_v1 (h0 : s.voice0.countdown ≠ 0) (h1 : s.voice1.countdown = 0)
    (hw : s.fetch .v1 = none) (hf : s.faultKind = none) :
    s.afterInvocation = { s.decrement .v0 with faultKind := some .cursorOverrun } := by
  have hphase := State.afterPhase_of_waiting (v := .v0) h0 hf
  rw [State.afterInvocation_of_unfaulted (by rw [hphase]; exact hf), hphase,
    State.afterPhase_of_overrun (s := s.decrement .v0) (v := .v1) h1 hw hf]
  exact State.finish_of_faulted rfl

theorem State.afterInvocation_of_waiting (h0 : s.voice0.countdown ≠ 0) (h1 : s.voice1.countdown ≠ 0)
    (hf : s.faultKind = none) : s.afterInvocation = ((s.decrement .v0).decrement .v1).synthesize := by
  have hphase := State.afterPhase_of_waiting (v := .v0) h0 hf
  rw [State.afterInvocation_of_unfaulted (by rw [hphase]; exact hf), hphase,
    State.afterPhase_of_waiting (s := s.decrement .v0) (v := .v1) h1 hf]
  exact State.finish_of_unfaulted hf

theorem State.decrement_of_ne_zero (h : (s.voice v).countdown ≠ 0) :
    s.decrement v = s.setVoice v { s.voice v with countdown := (s.voice v).countdown - 1 } := by
  rw [State.decrement, if_neg h]

/-- `exec` with voice `v` active and `active` put back after, inside a longer answer. -/
theorem andThen_exec_active (i : Instr) (f : State → Result) :
    (andThen (exec i { s with active := v }) fun t => f { t with active := s.active }) = f (s.afterWord v i) := by
  rw [exec_eq_afterWord, andThen_next]
  rfl

theorem finish_countDown_answer (t : State) (v : VoiceIdx) :
    (if t.faulted then .next t else .next (t.decrement v).synthesize : Result) = .next (t.countDown v).finish := by
  cases hf : t.faulted with
  | true => rw [State.countDown_of_faulted hf, State.finish_of_faulted hf, if_pos rfl]
  | false =>
    have hnone := State.not_faulted_iff.mp (Bool.eq_false_iff.mp hf)
    have hdec : (t.decrement v).faultKind = none := hnone
    rw [State.countDown_of_unfaulted hnone, State.finish_of_unfaulted hdec, if_neg Bool.false_ne_true]

end

/-! ### Which word an invocation runs -/

/-- Settles O27: the invocation is voice 0's word and the rest, or voice 0's decrement and voice 1's word. -/
theorem stepRunsFetchedWord : Obligations.StepRunsFetchedWord := by
  rintro s s' w i hs hruns rfl
  have hstep : step s = .next s'.afterInvocation ∧ s'.active = s.active ∧ s'.voice0 = s.voice0 ∧
      s'.voice1 = s.voice1 ∧ s'.mem = s.mem ∧ s'.faultKind = s.faultKind := by
    obtain ⟨hnil, rfl⟩ | ⟨hcons, hs'⟩ := hs
    · have := step_of_runs (.inl hnil) hruns
      rw [State.popped_of_nil hnil] at this
      exact ⟨this, rfl, rfl, rfl, rfl, rfl⟩
    · have := step_of_runs (.inr (by rw [hcons]; rfl)) hruns
      rw [State.popped, hcons, List.tail_cons, ← hs'] at this
      refine ⟨this, ?_⟩
      rw [hs']
      exact ⟨rfl, rfl, rfl, rfl, rfl⟩
  obtain ⟨hstep, hactive, hv0, hv1, hmem, hfault⟩ := hstep
  rw [hstep, ← hactive, ← hv0, ← hv1, ← hmem]
  refine ⟨fun h hw => ?_, fun h0 h1 hw => ?_⟩
  · rw [State.afterInvocation_of_fetch_v0 h hw]
    exact (andThen_exec_active _ restOfInvocation).symm
  · rw [State.afterInvocation_of_fetch_v1 h0 h1 hw (hfault.trans hruns.1), ← finish_countDown_answer]
    exact (andThen_exec_active (s := s'.decrement .v0) _
      fun b => if b.faulted then .next b else .next (b.decrement .v1).synthesize).symm

/-- Settles O28: the word placed is the word fetched, and voice 1 only counts down. -/
theorem fetchWordRunsExactly : Obligations.FetchWordRunsExactly := by
  intro s nbits w
  have hfetch : (s.withFetchWord nbits w).popped.fetch .v0 = some (tableWord nbits w) := s.withFetchWord_fetch nbits w
  have hwait : (s.withFetchWord nbits w).popped.voice1.countdown ≠ 0 := by
    change (1 : BitVec 32) ≠ 0
    decide
  rw [step_of_runs (.inr rfl) ⟨rfl, rfl, rfl⟩,
    State.afterInvocation_of_fetch_v0_waiting rfl hfetch hwait, apply_ite Host.Outcome.next]
  exact (andThen_exec_active (s := (s.withFetchWord nbits w).popped) _
    fun b => if b.faulted then .next b else .next ((b.decrement .v0).decrement .v1).synthesize).symm

/-! ### What stops an invocation -/

/-- Settles O29: the entry conditions in their order. -/
theorem entryConditions : Obligations.EntryConditions := by
  intro s rest hs hf
  rw [step_of_event hs]
  refine ⟨fun hl => ?_, fun hl hr => ?_⟩
  · simp [applyEvent, tick, hf, hl, State.raiseFault]
  · simp [applyEvent, tick, hf, hl, hr]

/-- Settles O30: the due voice has no word to fetch, so its phase is the fault record. -/
theorem cursorOverrunStopsInvocation : Obligations.CursorOverrunStopsInvocation := by
  intro s rest hs hruns
  obtain ⟨hf, -, -⟩ := id hruns
  rw [step_of_runs (strobeNext_of_cons hs) hruns]
  refine ⟨fun h hend => ?_, fun h0 h1 hend => ?_⟩
  · rw [State.afterInvocation_of_overrun_v0 (s := s.popped) h (State.fetch_eq_none_iff.mpr hend) hf,
      State.popped_of_cons hs]
  · rw [State.afterInvocation_of_overrun_v1 (s := s.popped) h0 h1 (State.fetch_eq_none_iff.mpr hend) hf,
      State.decrement_of_ne_zero (s := s.popped) (v := .v0) h0, State.popped_of_cons hs]
    rfl

/-- Settles O31: both phases are decrements, and synthesis does not read the countdowns. -/
theorem invocationWithoutDecode : Obligations.InvocationWithoutDecode := by
  intro s rest hs hruns h0 h1
  obtain ⟨hf, -, -⟩ := id hruns
  rw [step_of_runs (strobeNext_of_cons hs) hruns, State.afterInvocation_of_waiting (s := s.popped) h0 h1 hf,
    State.decrement_of_ne_zero (s := s.popped) (v := .v0) h0,
    State.decrement_of_ne_zero (s := s.popped.setVoice .v0 _) (v := .v1) h1, State.popped_of_cons hs]
  rfl

/-- A consumer event never stops. -/
theorem step_of_consume {s : State} {rest : List Event} (h : s.schedule = .consume :: rest) :
    step s = .next s.popped.clearReady := by
  rw [step_of_event h, State.popped_of_cons h]
  rfl

/-- A `loadSong` is refused by its configuration or its song (20_memory.md R52, R54). -/
theorem step_of_loadSong {s : State} {m : Memory} {sp : StartPattern} {rest : List Event}
    (h : s.schedule = .loadSong m sp :: rest) : step s =
      if configAdmitted s.cfg then
        if songAdmitted s.cfg m sp then .next (s.popped.load m sp) else .refused .songNotWellFormed
      else .refused .configNotAdmitted := by
  rw [step_of_event h, State.popped_of_cons h]
  rfl

/-- A construction is refused by its configuration (20_memory.md R54). -/
theorem step_of_construct {s : State} {rest : List Event} (h : s.schedule = .construct :: rest) : step s =
      if configAdmitted s.cfg then .next { State.construct s.cfg with schedule := rest }
      else .refused .configNotAdmitted := by
  rw [step_of_event h]
  rfl

/-- An event that is no strobe answers a next state or a refusal. -/
theorem step_ne_fault {s : State} (h : ¬s.StrobeNext) (k : Fault) : step s ≠ .fault k := by
  cases hs : s.schedule with
  | nil => exact absurd (.inl hs) h
  | cons e rest =>
    cases e with
    | strobe => exact absurd (strobeNext_of_cons hs) h
    | consume => simp [step_of_consume hs]
    | loadSong m sp =>
      rw [step_of_loadSong hs]
      split
      · split <;> simp
      · simp
    | construct =>
      rw [step_of_construct hs]
      split <;> simp

/-- Settles O32: an unfaulted strobe answers a next state, and no other event answers a fault. -/
theorem faultsExactlyWhenFaulted : Obligations.FaultsExactlyWhenFaulted := by
  intro s k
  refine ⟨fun h => ?_, fun ⟨hs, hf⟩ => step_of_strobeNext_faulted hs hf⟩
  by_cases hs : s.StrobeNext
  · refine ⟨hs, ?_⟩
    cases hf : s.faultKind with
    | none =>
      obtain ⟨t, ht, -⟩ := strobe_cases hs hf
      cases ht.symm.trans h
    | some k' =>
      cases (step_of_strobeNext_faulted hs hf).symm.trans h
      rfl
  · exact absurd h (step_ne_fault hs k)

/-- A strobe is never refused. -/
theorem step_ne_refused {s : State} (h : s.StrobeNext) (r : Refusal) : step s ≠ .refused r := by
  cases hf : s.faultKind with
  | none =>
    obtain ⟨t, ht, -⟩ := strobe_cases h hf
    simp [ht]
  | some k => simp [step_of_strobeNext_faulted h hf]

/-- Settles O33: event by event. -/
theorem refusesOnlyIllFormed : Obligations.RefusesOnlyIllFormed := by
  intro s r
  cases hs : s.schedule with
  | nil => simp [step_ne_refused (.inl hs)]
  | cons e rest =>
    cases e with
    | strobe => simp [step_ne_refused (strobeNext_of_cons hs)]
    | consume => simp [step_of_consume hs]
    | loadSong m sp =>
      rw [step_of_loadSong hs]
      cases hc : configAdmitted s.cfg <;> cases hm : songAdmitted s.cfg m sp <;> simp [hm, @eq_comm _ r]
    | construct =>
      rw [step_of_construct hs]
      cases hc : configAdmitted s.cfg <;> simp [@eq_comm _ r]

end Sys2Proof.Machine
end

section
/-! PROOFS. Rules over every step (10_state.md R44, R45; 46_tick_loop.md R191, R192; 60_exceptions.md R201, R206): what
an invocation leaves, which reports it adds, and what a strobe can end in. -/

namespace Sys2Proof.Machine

open Sys2Proof.Claims

variable {s t : State}

/-! ### What phases and invocations leave (40_sequencer_step.md R100) -/

/-- `t` has the parameters, the song and the output of `s`, and counts as many ticks. -/
structure SameEngine (s t : State) : Prop where
  cfg : t.cfg = s.cfg
  mem : t.mem = s.mem
  songLoaded : t.songLoaded = s.songLoaded
  outSample : t.outSample = s.outSample
  ready : t.ready = s.ready
  tickCounter : t.tickCounter = s.tickCounter
  schedule : t.schedule = s.schedule

theorem SameEngine.refl (s : State) : SameEngine s s := ⟨rfl, rfl, rfl, rfl, rfl, rfl, rfl⟩

theorem SameEngine.afterPhase {u : State} (h : SameEngine s u) (v : VoiceIdx) : SameEngine s (u.afterPhase v) :=
  State.afterPhase_induct h (fun _ => { h with }) (fun _ _ => { h with }) fun _ ht => { ht with }

theorem State.faulted_of_faultKind {k : Fault} (h : s.faultKind = some k) : s.faulted = true := by
  rw [State.faulted, h, Option.isSome_some]

/-- An invocation ends in the first phase that faults, or with synthesis. -/
theorem afterInvocation_cases (s : State) :
    (s.afterInvocation = s.afterPhase .v0 ∧ s.afterInvocation.faultKind ≠ none) ∨
      (s.afterInvocation = (s.afterPhase .v0).afterPhase .v1 ∧ s.afterInvocation.faultKind ≠ none) ∨
      (s.afterInvocation = ((s.afterPhase .v0).afterPhase .v1).synthesize ∧ s.afterInvocation.faultKind = none) := by
  cases hf0 : (s.afterPhase .v0).faultKind with
  | some k =>
    rw [State.afterInvocation_of_faulted (State.faulted_of_faultKind hf0), hf0]
    exact .inl ⟨rfl, Option.some_ne_none k⟩
  | none =>
    rw [State.afterInvocation_of_unfaulted hf0]
    cases hf1 : ((s.afterPhase .v0).afterPhase .v1).faultKind with
    | some k =>
      rw [State.finish_of_faulted (State.faulted_of_faultKind hf1), hf1]
      exact .inr (.inl ⟨rfl, Option.some_ne_none k⟩)
    | none =>
      rw [State.finish_of_unfaulted hf1]
      exact .inr (.inr ⟨rfl, (State.synthesize_faultKind _).trans hf1⟩)

theorem sameEngine_afterPhase (s : State) : SameEngine s (s.afterPhase .v0) := (SameEngine.refl s).afterPhase .v0

theorem sameEngine_afterPhases (s : State) : SameEngine s ((s.afterPhase .v0).afterPhase .v1) :=
  (sameEngine_afterPhase s).afterPhase .v1

/-- A strobe comes first or nothing does. -/
theorem eq_strobe_of_strobeNext {e : Event} (h : s.StrobeNext) (he : s.schedule.head? = some e) : e = .strobe := by
  obtain hnil | hhead := h
  · rw [hnil] at he
    cases he
  · exact Option.some.inj (he.symm.trans hhead)

/-- Settles O60: an invocation either ends with a fault or emits a sample and counts a tick. -/
theorem strobeOutcomes : Obligations.StrobeOutcomes := by
  intro s hs hf
  obtain ⟨t, ht, hcase⟩ := strobe_cases hs hf
  refine ⟨t, ht, ?_⟩
  cases hcase with
  | skip _ _ hl hr => exact .inl ⟨hl, hr, rfl⟩
  | noSong _ _ hl =>
    refine .inr (.inl ⟨?_, rfl, rfl, rfl⟩)
    simp [State.popped, hf]
  | run _ hruns =>
    have hphase := sameEngine_afterPhase s.popped
    have hphases := sameEngine_afterPhases s.popped
    obtain ⟨heq, hfault⟩ | ⟨heq, hfault⟩ | ⟨heq, hnone⟩ := afterInvocation_cases s.popped
    · refine .inr (.inl ⟨hfault, ?_⟩)
      rw [heq]
      exact ⟨hphase.ready, hphase.outSample, hphase.tickCounter⟩
    · refine .inr (.inl ⟨hfault, ?_⟩)
      rw [heq]
      exact ⟨hphases.ready, hphases.outSample, hphases.tickCounter⟩
    · refine .inr (.inr ⟨hruns, hnone, ?_⟩)
      rw [heq]
      refine ⟨rfl, ?_⟩
      rw [State.synthesize_tickCounter, hphases.tickCounter, BitVec.toNat_add]
      rfl
  | consume h => cases eq_strobe_of_strobeNext hs h
  | load m sp h => cases eq_strobe_of_strobeNext hs h
  | construct h => cases eq_strobe_of_strobeNext hs h

/-! ### The parameters and the song (10_state.md R45, 20_memory.md R66) -/

theorem afterInvocation_cfg_mem (s : State) : s.afterInvocation.cfg = s.cfg ∧ s.afterInvocation.mem = s.mem :=
  State.afterInvocation_induct (P := fun t => t.cfg = s.cfg ∧ t.mem = s.mem)
    ⟨(sameEngine_afterPhase s).cfg, (sameEngine_afterPhase s).mem⟩
    (fun t ⟨hcfg, hmem⟩ =>
      have h1 := (SameEngine.refl t).afterPhase .v1
      ⟨h1.cfg.trans hcfg, h1.mem.trans hmem⟩)
    fun t ⟨hcfg, hmem⟩ => ⟨t.synthesize_cfg.trans hcfg, t.synthesize_mem.trans hmem⟩

/-- Settles O56: only the two host events write pattern memory, and none writes the parameters. -/
theorem configAndSongFixed : Obligations.ConfigAndSongFixed := by
  intro s t h
  cases step_cases h with
  | skip => exact ⟨rfl, fun _ _ => rfl⟩
  | noSong => exact ⟨rfl, fun _ _ => rfl⟩
  | run =>
    obtain ⟨hcfg, hmem⟩ := afterInvocation_cfg_mem s.popped
    exact ⟨hcfg, fun _ _ => hmem⟩
  | consume => exact ⟨rfl, fun _ _ => rfl⟩
  | load m sp hhead => exact ⟨rfl, fun hload _ => absurd hhead (hload m sp)⟩
  | construct hhead => exact ⟨rfl, fun _ hcon => absurd hhead hcon⟩

/-! ### The diagnostic stream (60_exceptions.md R201, R206) -/

/-- `t` has the stream of `s` and then records of the voices `vs` in their order, stamped with the counter of `s`. -/
def Appends (vs : List VoiceIdx) (s t : State) : Prop :=
  ∃ l, t.diag = s.diag ++ l ∧ (l.map DiagRecord.voice).Sublist vs ∧ ∀ r ∈ l, r.tick = s.tickCounter

theorem Appends.of_diag_eq (vs : List VoiceIdx) (h : t.diag = s.diag) : Appends vs s t :=
  ⟨[], by rw [h, List.append_nil], List.nil_sublist _, fun _ hr => absurd hr List.not_mem_nil⟩

/-- Where fewer voices report, the stream holds as well. -/
theorem Appends.mono {vs us : List VoiceIdx} (h : Appends vs s t) (hsub : vs.Sublist us) : Appends us s t := by
  obtain ⟨l, hl, hvs, hstamp⟩ := h
  exact ⟨l, hl, hvs.trans hsub, hstamp⟩

theorem Appends.trans {vs us : List VoiceIdx} {u : State} (h : Appends vs s t) (htick : t.tickCounter = s.tickCounter)
    (h' : Appends us t u) : Appends (vs ++ us) s u := by
  obtain ⟨l, hl, hvs, hstamp⟩ := h
  obtain ⟨l', hl', hus, hstamp'⟩ := h'
  refine ⟨l ++ l', by rw [hl', hl, List.append_assoc], ?_, fun r hr => ?_⟩
  · rw [List.map_append]
    exact hvs.append hus
  · obtain hr | hr := List.mem_append.mp hr
    · exact hstamp r hr
    · exact (hstamp' r hr).trans htick

/-- A phase makes at most one report, of its own voice. -/
theorem appends_afterPhase (s : State) (v : VoiceIdx) : Appends [v] s (s.afterPhase v) := by
  refine State.afterPhase_induct (.of_diag_eq _ rfl) (fun _ => .of_diag_eq _ rfl) (fun w _ => ?_) fun _ ht => ht
  refine ⟨wordReports s v (decode w), rfl, ?_⟩
  unfold wordReports
  split <;> simp

/-- Settles O57: each phase adds at most one record, and only an invocation has phases. -/
theorem reportsAreAppended : Obligations.ReportsAreAppended := by
  intro s t h hcon
  cases step_cases h with
  | skip => exact Appends.of_diag_eq _ rfl
  | noSong => exact Appends.of_diag_eq _ rfl
  | run =>
    have h0 := appends_afterPhase s.popped .v0
    have h1 := h0.trans (sameEngine_afterPhase s.popped).tickCounter (appends_afterPhase _ .v1)
    obtain ⟨heq, -⟩ | ⟨heq, -⟩ | ⟨heq, -⟩ := afterInvocation_cases s.popped
    · rw [heq]
      exact h0.mono (by decide)
    · rw [heq]
      exact h1
    · rw [heq]
      obtain ⟨l, hl, hrecords⟩ := h1
      exact ⟨l, (State.synthesize_diag _).trans hl, hrecords⟩
  | consume => exact Appends.of_diag_eq _ rfl
  | load => exact Appends.of_diag_eq _ rfl
  | construct hhead => exact absurd hhead hcon

end Sys2Proof.Machine
end

section
/-! PROOFS. What several words or several invocations do (41_note.md R116, 46_tick_loop.md R188, 70_reset_and_hazards.md
R242, 90_conflicts.md C6). -/

namespace Sys2Proof.Machine

open Sys2Proof.Claims

/-! ### Countdowns through a phase -/

section

variable {s : State} {v : VoiceIdx}

section

variable (c : Config) (v : Voice)

@[simp] theorem oscVoice_freq : (oscVoice c v).freq = v.freq := rfl
@[simp] theorem oscVoice_countdown : (oscVoice c v).countdown = v.countdown := rfl
@[simp] theorem oscVoice_pat : (oscVoice c v).pat = v.pat := rfl
@[simp] theorem oscVoice_cur : (oscVoice c v).cur = v.cur := rfl

end

@[simp] theorem State.popped_voice0 (s : State) : s.popped.voice0 = s.voice0 := rfl
@[simp] theorem State.popped_voice1 (s : State) : s.popped.voice1 = s.voice1 := rfl
@[simp] theorem State.popped_cfg (s : State) : s.popped.cfg = s.cfg := rfl
@[simp] theorem State.popped_mem (s : State) : s.popped.mem = s.mem := rfl
@[simp] theorem State.popped_speed (s : State) : s.popped.speed = s.speed := rfl
@[simp] theorem State.popped_diag (s : State) : s.popped.diag = s.diag := rfl
@[simp] theorem State.popped_tickCounter (s : State) : s.popped.tickCounter = s.tickCounter := rfl
@[simp] theorem State.popped_songLoaded (s : State) : s.popped.songLoaded = s.songLoaded := rfl
@[simp] theorem State.popped_faultKind (s : State) : s.popped.faultKind = s.faultKind := rfl
@[simp] theorem State.popped_schedule (s : State) : s.popped.schedule = s.schedule.tail := rfl

theorem sub_one_toNat {x : BitVec 32} (h : x ≠ 0) : (x - 1).toNat = x.toNat - 1 := by bv_omega

theorem decrement_countdown_toNat (s : State) (v : VoiceIdx) :
    ((s.decrement v).voice v).countdown.toNat = (s.voice v).countdown.toNat - 1 := by
  rw [State.decrement_voice_same]
  dsimp only
  split
  · rename_i h
    rw [h]
    rfl
  · bv_omega

/-- A due voice on a word that is not reserved runs it and counts down. -/
theorem State.afterPhase_of_unreserved {w : Word} (h : (s.voice v).countdown = 0) (hw : s.fetch v = some w)
    (hrsv : (decode w).isReserved = false) (hf : s.faultKind = none) :
    s.afterPhase v = (s.afterWord v (decode w)).decrement v ∧ (s.afterPhase v).faultKind = none := by
  have hnone : (s.afterWord v (decode w)).faultKind = none := by
    rw [State.afterWord_faultKind, wordFault_of_unreserved _ _ hrsv, hf]
  rw [State.afterPhase_of_fetch h hw, State.countDown_of_unfaulted hnone]
  exact ⟨rfl, hnone⟩

/-- An invocation in which both voices run words that are not reserved. -/
theorem State.afterInvocation_of_fetch_both {w0 w1 : Word} (h0 : s.voice0.countdown = 0) (h1 : s.voice1.countdown = 0)
    (hw0 : s.fetch .v0 = some w0) (hw1 : s.fetch .v1 = some w1) (hrsv0 : (decode w0).isReserved = false)
    (hrsv1 : (decode w1).isReserved = false) (hf : s.faultKind = none) : s.afterInvocation =
      ((((s.afterWord .v0 (decode w0)).decrement .v0).afterWord .v1 (decode w1)).decrement .v1).synthesize := by
  obtain ⟨hphase0, hnone0⟩ := State.afterPhase_of_unreserved (v := .v0) h0 hw0 hrsv0 hf
  have hother : ((s.afterWord .v0 (decode w0)).decrement .v0).voice .v1 = s.voice .v1 := by
    rw [State.decrement_voice_other _ (by decide), State.afterWord_voice_other _ _ _ (by decide)]
  have hfetch : (s.afterPhase .v0).fetch .v1 = some w1 := by
    rw [hphase0, State.fetch, hother]
    exact hw1
  have hdue : ((s.afterPhase .v0).voice .v1).countdown = 0 := by
    rw [hphase0, hother]
    exact h1
  obtain ⟨hphase1, hnone1⟩ := State.afterPhase_of_unreserved hdue hfetch hrsv1 hnone0
  rw [State.afterInvocation_of_unfaulted hnone0, State.finish_of_unfaulted hnone1, hphase1, hphase0]

end

/-- Settles O34: voice 1's word runs on the speed voice 0's word left, and voice 0's on the old one. -/
theorem speedSeenBySecondVoiceOnly : Obligations.SpeedSeenBySecondVoiceOnly := by
  intro s rest w0 w1 m t hs hruns h0 h1 hw0 hw1
  obtain ⟨hf, -, -⟩ := id hruns
  have hstep := step_of_runs (strobeNext_of_cons hs) hruns
  have hboth := State.afterInvocation_of_fetch_both (s := s.popped) h0 h1 hw0 hw1
  refine ⟨fun hspeed hpause => ?_, fun hpause hspeed => ?_⟩
  · have hinv := hboth (by rw [hspeed]; rfl) (by rw [hpause]; rfl) hf
    rw [hspeed, hpause] at hinv
    refine ⟨_, hstep, by rw [hinv]; rfl, ?_⟩
    rw [hinv]
    refine (decrement_countdown_toNat _ .v1).trans ?_
    rw [State.afterWord_voice_same]
    exact congrArg (· - 1) (pauseCountdown_toNat t m)
  · have hinv := hboth (by rw [hpause]; rfl) (by rw [hspeed]; rfl) hf
    rw [hspeed, hpause] at hinv
    refine ⟨_, hstep, by rw [hinv]; rfl, ?_⟩
    rw [hinv]
    refine (decrement_countdown_toNat _ .v0).trans ?_
    rw [State.afterWord_voice_same]
    exact congrArg (· - 1) (pauseCountdown_toNat t s.speed)

/-! ### Strobes, each followed by the consumer -/

/-- The state after one executed strobe and the consumer's clear. -/
def State.afterRound (s : State) : State := s.popped.afterInvocation.popped.clearReady

/-- A run goes on from the next state of its first step. -/
theorem run_succ_of_next {s t : State} (k : Nat) (h : step s = .next t) :
    Host.Core.run Sys2Proof.core (k + 1) s = Host.Core.run Sys2Proof.core k t := by
  have hcore : Sys2Proof.core.step s = .next t := h
  simp only [Host.Core.run, hcore]

/-- A run through a strobe that is executed and a consumer's clear. -/
theorem run_strobe_consume {s : State} {rest : List Event} (k : Nat) (hs : s.schedule = .strobe :: .consume :: rest)
    (hruns : s.Runs) :
    Host.Core.run Sys2Proof.core (k + 2) s = Host.Core.run Sys2Proof.core k s.afterRound := by
  have hstrobe := step_of_runs (strobeNext_of_cons hs) hruns
  have hsched : s.popped.afterInvocation.schedule = .consume :: rest := by
    rw [step_schedule hstrobe, hs, List.tail_cons]
  exact (run_succ_of_next (k + 1) hstrobe).trans (run_succ_of_next k (step_of_consume hsched))

/-- What `n` rounds in which both voices count down do to a state. -/
structure Waited (n : Nat) (s t : State) : Prop where
  runs : t.Runs
  schedule : t.schedule = s.schedule.drop (2 * n)
  countdown0 : t.voice0.countdown.toNat = s.voice0.countdown.toNat - n
  countdown1 : t.voice1.countdown.toNat = s.voice1.countdown.toNat - n
  place0 : SamePlace s.voice0 t.voice0
  place1 : SamePlace s.voice1 t.voice1
  freq0 : t.voice0.freq = s.voice0.freq
  mem : t.mem = s.mem
  speed : t.speed = s.speed
  diag : t.diag = s.diag
  tickCounter : t.tickCounter = s.tickCounter + BitVec.ofNat 32 n

theorem Waited.zero {s : State} (hruns : s.Runs) : Waited 0 s s :=
  ⟨hruns, rfl, rfl, rfl, ⟨rfl, rfl⟩, ⟨rfl, rfl⟩, rfl, rfl, rfl, rfl, (BitVec.add_zero _).symm⟩

theorem Waited.trans {m n : Nat} {s t u : State} (h : Waited m s t) (h' : Waited n t u) : Waited (m + n) s u where
  runs := h'.runs
  schedule := by rw [h'.schedule, h.schedule, List.drop_drop, Nat.mul_add]
  countdown0 := by rw [h'.countdown0, h.countdown0, Nat.sub_sub]
  countdown1 := by rw [h'.countdown1, h.countdown1, Nat.sub_sub]
  place0 := ⟨h'.place0.1.trans h.place0.1, h'.place0.2.trans h.place0.2⟩
  place1 := ⟨h'.place1.1.trans h.place1.1, h'.place1.2.trans h.place1.2⟩
  freq0 := h'.freq0.trans h.freq0
  mem := h'.mem.trans h.mem
  speed := h'.speed.trans h.speed
  diag := h'.diag.trans h.diag
  tickCounter := by rw [h'.tickCounter, h.tickCounter, BitVec.ofNat_add, BitVec.add_assoc]

/-- One round in which both voices count down. -/
theorem waited_afterRound {s : State} (hruns : s.Runs) (h0 : s.voice0.countdown ≠ 0) (h1 : s.voice1.countdown ≠ 0) :
    Waited 1 s s.afterRound := by
  obtain ⟨hf, hl, -⟩ := hruns
  rw [State.afterRound, State.afterInvocation_of_waiting (s := s.popped) h0 h1 hf,
    State.decrement_of_ne_zero (s := s.popped) (v := .v0) h0,
    State.decrement_of_ne_zero (s := s.popped.setVoice .v0 _) (v := .v1) h1]
  exact {
    runs := ⟨by simpa using hf, by simpa using hl, rfl⟩
    schedule := by simp [← List.drop_one]
    countdown0 := by simpa using sub_one_toNat h0
    countdown1 := by simpa using sub_one_toNat h1
    place0 := by simp [SamePlace]
    place1 := by simp [SamePlace]
    freq0 := by simp
    mem := by simp
    speed := by simp
    diag := by simp
    tickCounter := by simp }

theorem strobes_drop (n : Nat) : (strobes n).drop (2 * n) = [] := by
  induction n with
  | zero => rfl
  | succ n ih => exact ih

/-- While both countdowns last, the rounds only count down. -/
theorem run_strobes_waiting (n : Nat) (s : State) (hs : s.schedule = strobes n) (hruns : s.Runs)
    (h0 : n ≤ s.voice0.countdown.toNat) (h1 : n ≤ s.voice1.countdown.toNat) :
    ∃ t, Host.Core.run Sys2Proof.core (2 * n) s = .next t ∧ Waited n s t := by
  induction n generalizing s with
  | zero => exact ⟨s, rfl, .zero hruns⟩
  | succ n ih =>
    have hne0 : s.voice0.countdown ≠ 0 := by rintro h; simp [h] at h0
    have hne1 : s.voice1.countdown ≠ 0 := by rintro h; simp [h] at h1
    have hround := waited_afterRound hruns hne0 hne1
    have hsched : s.afterRound.schedule = strobes n := by rw [hround.schedule, hs]; rfl
    obtain ⟨t, hrun, ht⟩ := ih s.afterRound hsched hround.runs (by rw [hround.countdown0]; omega)
      (by rw [hround.countdown1]; omega)
    exact ⟨t, (run_strobe_consume _ hs hruns).trans hrun, Nat.add_comm 1 n ▸ hround.trans ht⟩

/-- Settles O35: the rounds only count down. -/
theorem waitingVoicesDecodeNothing : Obligations.WaitingVoicesDecodeNothing := by
  intro n s hs hruns h0 h1
  obtain ⟨t, hrun, ht⟩ := run_strobes_waiting n s hs hruns h0 h1
  have hempty : s.schedule.drop (2 * n) = [] := by rw [hs, strobes_drop]
  exact ⟨t, hrun, ht.runs, ht.schedule.trans hempty, ht.countdown0, ht.countdown1, ht.place0, ht.place1, ht.mem,
    ht.speed, ht.diag, ht.tickCounter⟩

/-! ### A note of voice 0, then waiting (41_note.md R116) -/

/-- The first round of a note of voice 0 while voice 1 counts down: one write of each voice, then synthesis. -/
theorem afterRound_of_note {s : State} {w : Word} {d p : DurCode} {k : BitVec 7} {x : Voice} (hruns : s.Runs)
    (h0 : s.voice0.countdown = 0) (h1 : s.voice1.countdown ≠ 0) (hw : s.fetch .v0 = some w)
    (hdec : decode w = .note d p k) (hx : wordVoice s.cfg s.mem.nPat s.speed s.voice0 (.note d p k) = x)
    (hne : x.countdown ≠ 0) : s.afterRound =
      (((s.popped.setVoice .v0 { x with countdown := x.countdown - 1 }).setVoice .v1
        { s.voice1 with countdown := s.voice1.countdown - 1 }).synthesize).popped.clearReady := by
  obtain ⟨hf, -, -⟩ := hruns
  have hword : s.popped.afterWord .v0 (.note d p k) = s.popped.setVoice .v0 x := by
    rw [State.afterWord_of_plain .v0 rfl rfl rfl, ← hx]
    rfl
  have hnone : (s.popped.setVoice .v0 x).faultKind = none := hf
  rw [State.afterRound, State.afterInvocation_of_fetch_v0_waiting (s := s.popped) h0 hw h1, hdec, hword,
    if_neg (State.not_faulted_iff.mpr hnone), State.decrement_of_ne_zero (s := s.popped.setVoice .v0 x) (v := .v0) hne,
    State.setVoice_setVoice, State.decrement_of_ne_zero (s := s.popped.setVoice .v0 _) (v := .v1) h1]
  rfl

theorem decode_note_ne_zero {w : Word} {d p : DurCode} {k : BitVec 7} (h : decode w = .note d p k) : k ≠ 0 := by
  have hwf := (encodeOfDecode w).1
  rw [h] at hwf
  simpa [Instr.wf] using hwf

/-- What the first round leaves for the rounds that follow. -/
structure NoteStarted (n : Nat) (x : Voice) (s t : State) : Prop where
  runs : t.Runs
  schedule : t.schedule = s.schedule.drop 2
  countdown0 : t.voice0.countdown.toNat = n - 1
  countdown1 : t.voice1.countdown.toNat = s.voice1.countdown.toNat - 1
  place0 : SamePlace x t.voice0
  freq0 : t.voice0.freq = x.freq
  tickCounter : t.tickCounter = s.tickCounter + 1

theorem noteStarted_afterRound {s : State} {w : Word} {d p : DurCode} {k : BitVec 7} {x : Voice} (hruns : s.Runs)
    (h0 : s.voice0.countdown = 0) (h1 : s.voice1.countdown ≠ 0) (hw : s.fetch .v0 = some w)
    (hdec : decode w = .note d p k) (hx : wordVoice s.cfg s.mem.nPat s.speed s.voice0 (.note d p k) = x)
    (hne : x.countdown ≠ 0) : NoteStarted x.countdown.toNat x s s.afterRound := by
  obtain ⟨hf, hl, -⟩ := id hruns
  rw [afterRound_of_note hruns h0 h1 hw hdec hx hne]
  exact {
    runs := ⟨by simpa using hf, by simpa using hl, rfl⟩
    schedule := by simp [← List.drop_one]
    countdown0 := by simpa using sub_one_toNat hne
    countdown1 := by simpa using sub_one_toNat h1
    place0 := by simp [SamePlace]
    freq0 := by simp
    tickCounter := by simp }

/-- Settles O36: the first round runs the note, the others wait. -/
theorem noteOccupiesItsTicks : Obligations.NoteOccupiesItsTicks := by
  intro n s w d p k hn hpos hs hruns h0 hw hdec h1
  obtain ⟨m, rfl⟩ := Nat.exists_eq_add_of_le' hpos
  obtain ⟨x, hx⟩ : ∃ x, wordVoice s.cfg s.mem.nPat s.speed s.voice0 (.note d p k) = x := ⟨_, rfl⟩
  have hnote : x = { noteOn s.cfg k (durTicks s.voice0 p) s.voice0.advanced with
      countdown := noteCountdown (durTicks s.voice0 p) (durTicks s.voice0 d) s.speed } :=
    hx.symm.trans (noteVoice_of_ne_zero _ _ _ _ _ (decode_note_ne_zero hdec))
  have hcount : x.countdown.toNat = m + 1 := by
    rw [hnote, hn]
    exact noteCountdown_toNat _ _ _
  have hne0 : x.countdown ≠ 0 := by rintro h; simp [h] at hcount
  have hne1 : s.voice1.countdown ≠ 0 := by rintro h; simp [h] at h1
  have hround := noteStarted_afterRound hruns h0 hne1 hw hdec hx hne0
  have hsched : s.afterRound.schedule = strobes m := by rw [hround.schedule, hs]; rfl
  obtain ⟨t, hrun, ht⟩ := run_strobes_waiting m s.afterRound hsched hround.runs
    (by rw [hround.countdown0, hcount]; omega) (by rw [hround.countdown1]; omega)
  obtain ⟨hpat, hcur⟩ := ht.place0
  obtain ⟨hpat', hcur'⟩ := hround.place0
  refine ⟨t, (run_strobe_consume _ hs hruns).trans hrun, ht.runs, ?_, ?_, ?_, ?_, ?_⟩
  · refine BitVec.eq_of_toNat_eq ?_
    rw [ht.countdown0, hround.countdown0, hcount]
    simp
  · rw [hpat, hpat', hnote]
    rfl
  · rw [hcur, hcur', hnote]
    rfl
  · rw [ht.freq0, hround.freq0, hnote]
    rfl
  · rw [ht.tickCounter, hround.tickCounter, Nat.add_comm m 1, BitVec.ofNat_add, ← BitVec.add_assoc]
    rfl

end Sys2Proof.Machine
end

section
/-! PROOFS. What a step does not read: the tick counter and the diagnostic stream (10_state.md R41, R46), and the other
voice (40_sequencer_step.md R100, 60_exceptions.md R215). -/

namespace Sys2Proof.Machine

open Sys2Proof.Claims

/-! ### The tick counter and the diagnostic stream -/

/-- The state with another tick counter and another diagnostic stream. -/
def State.restamped (s : State) (n : BitVec 32) (l : List DiagRecord) : State := { s with tickCounter := n, diag := l }

/-- `t` differs from `s` at most in the tick counter and the diagnostic stream. -/
def Restamped (s t : State) : Prop := ∃ n l, t = s.restamped n l

/-- The answers are of one kind, with the same reason or with states that differ at most there. -/
inductive AnswersAlike : Result → Result → Prop where
  | next {s t : State} (h : Restamped s t) : AnswersAlike (.next s) (.next t)
  | fault (k : Fault) : AnswersAlike (.fault k) (.fault k)
  | refused (r : Refusal) : AnswersAlike (.refused r) (.refused r)

section

variable {s t : State}

theorem Restamped.faulted (h : Restamped s t) : t.faulted = s.faulted := by
  obtain ⟨n, l, rfl⟩ := h
  rfl

theorem Restamped.afterWord (h : Restamped s t) (v : VoiceIdx) (i : Instr) :
    Restamped (s.afterWord v i) (t.afterWord v i) := by
  obtain ⟨n, l, rfl⟩ := h
  exact ⟨n, l ++ wordReports (s.restamped n l) v i, by cases v <;> rfl⟩

theorem Restamped.afterStep (h : Restamped s t) (v : VoiceIdx) : Restamped (s.afterStep v) (t.afterStep v) := by
  have hfetch : t.fetch v = s.fetch v := by
    obtain ⟨n, l, rfl⟩ := h
    cases v <;> rfl
  unfold State.afterStep
  rw [hfetch]
  split
  · obtain ⟨n, l, rfl⟩ := h
    exact ⟨n, l, rfl⟩
  · exact h.afterWord v _

theorem Restamped.countDown (h : Restamped s t) (v : VoiceIdx) : Restamped (s.countDown v) (t.countDown v) := by
  unfold State.countDown
  rw [h.faulted]
  split
  · exact h
  · obtain ⟨n, l, rfl⟩ := h
    exact ⟨n, l, by cases v <;> rfl⟩

theorem Restamped.afterPhase (h : Restamped s t) (v : VoiceIdx) : Restamped (s.afterPhase v) (t.afterPhase v) := by
  have hdue : (t.voice v).countdown = (s.voice v).countdown := by
    obtain ⟨n, l, rfl⟩ := h
    cases v <;> rfl
  unfold State.afterPhase
  rw [hdue]
  split
  · exact (h.afterStep v).countDown v
  · exact h.countDown v

theorem Restamped.finish (h : Restamped s t) : Restamped s.finish t.finish := by
  unfold State.finish
  rw [h.faulted]
  split
  · exact h
  · obtain ⟨n, l, rfl⟩ := h
    exact ⟨n + 1, l, rfl⟩

theorem Restamped.afterInvocation (h : Restamped s t) : Restamped s.afterInvocation t.afterInvocation := by
  have h0 := h.afterPhase .v0
  unfold State.afterInvocation
  rw [h0.faulted]
  split
  · exact h0
  · exact (h0.afterPhase .v1).finish

theorem tick_of_faulted {k : Fault} (h : s.faultKind = some k) : tick s = .fault k := by
  simp only [tick, h]

theorem tick_of_unfaulted (h : s.faultKind = none) : tick s =
    .next (if s.songLoaded then if s.ready then s else s.afterInvocation else s.raiseFault .noSong) := by
  simp only [tick, h, runInvocation_eq_afterInvocation, apply_ite Host.Outcome.next]

theorem Restamped.tick (h : Restamped s t) : AnswersAlike (tick s) (tick t) := by
  have hrun := h.afterInvocation
  obtain ⟨n, l, rfl⟩ := h
  have hloaded : (s.restamped n l).songLoaded = s.songLoaded := rfl
  have hready : (s.restamped n l).ready = s.ready := rfl
  cases hf : s.faultKind with
  | some k =>
    rw [tick_of_faulted hf, tick_of_faulted (s := s.restamped n l) hf]
    exact .fault k
  | none =>
    rw [tick_of_unfaulted hf, tick_of_unfaulted (s := s.restamped n l) hf, hloaded, hready]
    refine .next ?_
    split
    · split
      · exact ⟨n, l, rfl⟩
      · exact hrun
    · exact ⟨n, l, rfl⟩

theorem Restamped.applyEvent (h : Restamped s t) (e : Event) : AnswersAlike (applyEvent e s) (applyEvent e t) := by
  cases e with
  | strobe => exact h.tick
  | consume =>
    obtain ⟨n, l, rfl⟩ := h
    exact .next ⟨n, l, rfl⟩
  | loadSong m sp =>
    obtain ⟨n, l, rfl⟩ := h
    change AnswersAlike (loadSong m sp s) (if configAdmitted s.cfg then
      if songAdmitted s.cfg m sp then .next ((s.restamped n l).load m sp) else .refused .songNotWellFormed
      else .refused .configNotAdmitted)
    unfold loadSong
    split
    · split
      · exact .next ⟨0, l, rfl⟩
      · exact .refused _
    · exact .refused _
  | construct =>
    obtain ⟨n, l, rfl⟩ := h
    change AnswersAlike (reconstruct s) (reconstruct s)
    unfold reconstruct
    split
    · exact .next ⟨_, _, rfl⟩
    · exact .refused _

theorem Restamped.step (h : Restamped s t) : AnswersAlike (step s) (step t) := by
  obtain ⟨n, l, rfl⟩ := h
  have hsched : (s.restamped n l).schedule = s.schedule := rfl
  cases hs : s.schedule with
  | nil =>
    rw [step_of_strobeNext (.inl hs), step_of_strobeNext (.inl (hsched.trans hs))]
    exact Restamped.tick ⟨n, l, rfl⟩
  | cons e rest =>
    rw [step_of_event hs, step_of_event (hsched.trans hs)]
    exact Restamped.applyEvent ⟨n, l, rfl⟩ e

end

/-- Settles O58: every operation answers alike from two states that differ only there. -/
theorem counterAndStreamUnread : Obligations.CounterAndStreamUnread := by
  intro s n l
  have h : AnswersAlike (step s) (step (s.restamped n l)) := Restamped.step ⟨n, l, rfl⟩
  refine ⟨fun t ht => ?_, fun k hk => ?_, fun r hr => ?_⟩
  · rw [ht] at h
    generalize hu : step (s.restamped n l) = u at h
    cases h with
    | next h =>
      obtain ⟨n', l', rfl⟩ := h
      exact ⟨n', l', hu⟩
  · rw [hk] at h
    generalize hu : step (s.restamped n l) = u at h
    cases h
    exact hu
  · rw [hr] at h
    generalize hu : step (s.restamped n l) = u at h
    cases h
    exact hu

/-! ### The other voice -/

section

variable (s : State) (v : VoiceIdx) (x : Voice)

theorem State.setVoice_other_voice : (s.setVoice (other v) x).voice v = s.voice v :=
  s.setVoice_voice_other (other_ne v).symm x

theorem State.setVoice_other_afterWord (i : Instr) :
    (s.setVoice (other v) x).afterWord v i = (s.afterWord v i).setVoice (other v) x := by
  cases v <;> rfl

theorem State.setVoice_other_fetch : (s.setVoice (other v) x).fetch v = s.fetch v := by
  rw [State.fetch, State.setVoice_other_voice, State.setVoice_mem, State.fetch]

theorem State.setVoice_other_afterStep :
    (s.setVoice (other v) x).afterStep v = (s.afterStep v).setVoice (other v) x := by
  unfold State.afterStep
  rw [State.setVoice_other_fetch]
  split
  · rfl
  · exact State.setVoice_other_afterWord s v x _

theorem State.setVoice_other_countDown :
    (s.setVoice (other v) x).countDown v = (s.countDown v).setVoice (other v) x := by
  have hfaulted : (s.setVoice (other v) x).faulted = s.faulted := rfl
  unfold State.countDown
  rw [hfaulted]
  split
  · rfl
  · cases v <;> rfl

theorem State.setVoice_other_afterPhase :
    (s.setVoice (other v) x).afterPhase v = (s.afterPhase v).setVoice (other v) x := by
  unfold State.afterPhase
  rw [State.setVoice_other_voice]
  split
  · rw [State.setVoice_other_afterStep, State.setVoice_other_countDown]
  · rw [State.setVoice_other_countDown]

theorem State.afterPhase_voice_other : (s.afterPhase v).voice (other v) = s.voice (other v) :=
  State.afterPhase_induct (P := fun t => t.voice (other v) = s.voice (other v)) rfl
    (fun _ => State.raiseFault_voice s _ _) (fun _ _ => State.afterWord_voice_other s v _ (other_ne v))
    fun t ht => (State.decrement_voice_other t (other_ne v)).trans ht

end

/-- Settles O59: a phase commutes with a write of the other voice and keeps it. -/
theorem voicesSequenceApart : Obligations.VoicesSequenceApart := by
  intro s t v x hphase
  obtain rfl := Host.Outcome.next.inj ((seqPhase_eq_afterPhase s v).symm.trans hphase)
  exact ⟨State.afterPhase_voice_other s v,
    (seqPhase_eq_afterPhase _ v).trans (congrArg _ (State.setVoice_other_afterPhase s v x))⟩

end Sys2Proof.Machine
end

section
/-! PROOFS. The envelope (44_envelope.md R150 to R159): its formula, its range and its course in each phase. -/

namespace Sys2Proof.Machine

open Sys2Proof.Claims

/-! ### The percentage, branch by branch of the classification (R151) -/

theorem envPct_eq (v : Voice) : envPct v =
    if v.released then if v.relTime.toNat ≤ releaseAge v then 0 else releasePct v
    else if v.age.toNat < v.atkTime.toNat then attackPct v
    else if v.age.toNat < v.decTime.toNat then decayPct v
    else v.susLevel.toNat := by
  unfold envPct envPhase
  split_ifs <;> rfl

section

variable {v : Voice}

theorem envPct_of_released (h : v.released = true) : envPct v =
    if v.relTime.toNat ≤ releaseAge v then 0 else releasePct v := by
  rw [envPct_eq, if_pos h]

theorem envPct_of_attack (h : envPhase v = .attack) : envPct v = attackPct v := by rw [envPct, h]

theorem envPct_of_decay (h : envPhase v = .decay) : envPct v = decayPct v := by rw [envPct, h]

theorem envPct_of_sustain (h : envPhase v = .sustain) : envPct v = v.susLevel.toNat := by rw [envPct, h]

end

/-- Settles O37: each branch of the classification is a branch of the formula. -/
theorem envelopeFormula : Obligations.EnvelopeFormula := envPct_eq

/-! ### The range (R157) -/

/-- A part of a ramp is no more than the whole. -/
theorem ramp_le (x : Nat) {t span : Nat} (h : t ≤ span) : x * t / span ≤ x :=
  Nat.div_le_of_le_mul (by rw [Nat.mul_comm span]; exact Nat.mul_le_mul_left x h)

/-- A ramp rises with its time. -/
theorem ramp_mono (x span : Nat) {t u : Nat} (h : t ≤ u) : x * t / span ≤ x * u / span :=
  Nat.div_le_div_right (Nat.mul_le_mul_left x h)

theorem envPct_le_max (v : Voice) : envPct v ≤ max v.atkLevel.toNat v.susLevel.toNat := by
  rw [envPct_eq]
  split
  · split
    · exact Nat.zero_le _
    · exact (Nat.sub_le _ _).trans (le_max_right _ _)
  · split
    · exact (ramp_le _ (Nat.le_of_lt ‹_›)).trans (le_max_left _ _)
    · split
      · have hramp := ramp_le (v.susLevel.toNat - v.atkLevel.toNat)
          (Nat.sub_le_sub_right (Nat.le_of_lt ‹v.age.toNat < v.decTime.toNat›) v.atkTime.toNat)
        dsimp only [decayPct]
        split
        · exact (Nat.sub_le _ _).trans (le_max_left _ _)
        · exact le_max_of_le_right (by omega)
      · exact le_max_right _ _

/-- Settles O38: each branch stays below one of the levels. -/
theorem envelopeInRange : Obligations.EnvelopeInRange := fun v =>
  ⟨envPct_le_max v, fun hatk hsus => (envPct_le_max v).trans (max_le hatk hsus)⟩

/-! ### The course within a phase (R158) -/

section

variable (v : Voice) {a b : BitVec 32} (h : a.toNat ≤ b.toNat)

include h

theorem attackPct_mono : attackPct { v with age := a } ≤ attackPct { v with age := b } := ramp_mono _ _ h

theorem decayPct_anti (hlevel : v.susLevel.toNat ≤ v.atkLevel.toNat) :
    decayPct { v with age := b } ≤ decayPct { v with age := a } := by
  dsimp only [decayPct]
  rw [if_pos hlevel, if_pos hlevel]
  exact Nat.sub_le_sub_left (ramp_mono _ _ (Nat.sub_le_sub_right h _)) _

theorem decayPct_mono (hlevel : v.atkLevel.toNat ≤ v.susLevel.toNat) :
    decayPct { v with age := a } ≤ decayPct { v with age := b } := by
  dsimp only [decayPct]
  split
  · rw [show v.atkLevel.toNat - v.susLevel.toNat = 0 by omega, Nat.zero_mul, Nat.zero_mul]
  · exact Nat.add_le_add_left (ramp_mono _ _ (Nat.sub_le_sub_right h _)) _

/-- Once released the percentage does not rise. -/
theorem envPct_released_anti (hrel : v.released = true) :
    envPct { v with age := b } ≤ envPct { v with age := a } := by
  have hage : releaseAge { v with age := a } ≤ releaseAge { v with age := b } := Nat.sub_le_sub_right h _
  rw [envPct_of_released (v := { v with age := a }) hrel, envPct_of_released (v := { v with age := b }) hrel]
  dsimp only at hage ⊢
  split
  · exact Nat.zero_le _
  · rw [if_neg (by omega)]
    exact Nat.sub_le_sub_left (ramp_mono _ _ hage) _

end

/-- Settles O39: one ramp for each phase. -/
theorem envelopeMonotone : Obligations.EnvelopeMonotone := by
  intro v a b h
  refine ⟨fun ha hb => ?_, fun ha hb => ?_, fun ha hb => ?_, envPct_released_anti v h⟩
  · rw [envPct_of_attack ha, envPct_of_attack hb]
    exact attackPct_mono v h
  · rw [envPct_of_decay ha, envPct_of_decay hb]
    exact ⟨decayPct_anti v h, decayPct_mono v h⟩
  · rw [envPct_of_sustain ha, envPct_of_sustain hb]

/-! ### A note-off at once (41_note.md R118) -/

/-- Settles O40: the release marker is the age 0. -/
theorem immediateNoteOffReleases : Obligations.ImmediateNoteOffReleases := by
  intro c v n a hc
  have hrel : (noteOff c (noteOn c n 0 v)).released = true := by
    rw [noteOff, releasedByNoteOff, hc, if_neg Bool.false_ne_true]
  refine ⟨hrel, rfl, fun h => ?_, fun h => ?_⟩
  · rw [envPct_of_released (v := { noteOff c (noteOn c n 0 v) with age := a }) hrel]
    exact if_pos h
  · have hpos : ¬v.relTime.toNat ≤ 0 := fun h0 => h (BitVec.eq_of_toNat_eq (Nat.le_zero.mp h0))
    rw [envPct_of_released hrel]
    refine (if_neg hpos).trans ?_
    change v.susLevel.toNat - v.susLevel.toNat * 0 / v.relTime.toNat = v.susLevel.toNat
    rw [Nat.mul_zero, Nat.zero_div, Nat.sub_zero]

end Sys2Proof.Machine
end

section
/-! PROOFS. The oscillator and the mixer (45_oscillator.md, 46_tick_loop.md R189, R190). -/

namespace Sys2Proof.Machine

open Sys2Proof.Claims

/-! ### Truncating division (00_scope.md R15) -/

/-- A part `f / p` of an integer, truncated, lies between 0 and the integer. -/
theorem tdiv_part_between (d : Int) {f p : Nat} (h : f ≤ p) :
    min 0 d ≤ tdiv (d * (f : Int)) p ∧ tdiv (d * (f : Int)) p ≤ max 0 d := by
  have hpart : ∀ n : Nat, Int.tdiv ((n : Int) * (f : Int)) p = ((n * f / p : Nat) : Int) := fun n => by
    rw [← Int.natCast_mul, Int.ofNat_tdiv]
  obtain ⟨n, rfl | rfl⟩ := d.eq_nat_or_neg
  all_goals
    have hn := ramp_le n h
    simp only [tdiv, Int.neg_mul, Int.neg_tdiv, hpart]
    generalize n * f / p = q at *
    omega

/-! ### The ring of phases (R171, R172, R174) -/

section

variable (c : Config)

theorem phaseMax_pos : 0 < phaseMax c := Nat.two_pow_pos _

theorem nextPhase_lt (v : Voice) : nextPhase c v < phaseMax c := Nat.mod_lt _ (phaseMax_pos c)

theorem phaseFrac_eq_mod (phase len : Nat) : phaseFrac c phase len = phase * len % phaseMax c := by
  rw [phaseFrac, tablePos, Nat.mul_comm (_ / _), Nat.mod_eq_sub_mul_div]

theorem phaseFrac_lt (phase len : Nat) : phaseFrac c phase len < phaseMax c := by
  rw [phaseFrac_eq_mod]
  exact Nat.mod_lt _ (phaseMax_pos c)

end

/-- Settles O44: position and fraction are quotient and remainder by `P`. -/
theorem tablePositionInRange : Obligations.TablePositionInRange := by
  intro c phase len hphase hlen
  refine ⟨?_, phaseFrac_lt c phase len, ?_⟩
  · exact Nat.div_lt_of_lt_mul (Nat.mul_lt_mul_of_pos_right hphase hlen)
  · rw [phaseFrac_eq_mod, tablePos, Nat.mul_comm (_ / _), Nat.div_add_mod]

/-! ### The interpolated lookup (R174, R175) -/

theorem interpSample_between (c : Config) (k : Byte) (phase : Nat) :
    min (instrRead c k (tablePos c phase (instrLen c k)))
        (instrRead c k ((tablePos c phase (instrLen c k) + 1) % instrLen c k)) ≤ interpSample c k phase ∧
    interpSample c k phase ≤ max (instrRead c k (tablePos c phase (instrLen c k)))
        (instrRead c k ((tablePos c phase (instrLen c k) + 1) % instrLen c k)) := by
  dsimp only [interpSample]
  generalize instrRead c k (tablePos c phase (instrLen c k)) = x
  generalize instrRead c k ((tablePos c phase (instrLen c k) + 1) % instrLen c k) = y
  have h := tdiv_part_between (y - x) (Nat.le_of_lt (phaseFrac_lt c phase (instrLen c k)))
  omega

/-- Settles O45: a part of the step to the next entry is added, none of it at fraction 0. -/
theorem interpolationBetweenEntries : Obligations.InterpolationBetweenEntries := by
  intro c k phase _ _
  obtain ⟨hlo, hhi⟩ := interpSample_between c k phase
  refine ⟨hlo, hhi, fun h => ?_⟩
  rw [interpSample, directSample, h]
  simp [tdiv]

/-! ### The oscillator (R170, R176, R178, R179) -/

section

variable (c : Config) (v : Voice)

theorem oscRuns_eq_false_iff : oscRuns c v = false ↔ v.instr = none ∧ c.noInstrAdvances = false := by
  simp [oscRuns]

theorem oscVoice_of_runs (h : oscRuns c v = true) :
    oscVoice c v = { v with phase := nextPhase c v, age := satInc32 v.age } := by
  simp [oscVoice, h]

theorem oscVoice_of_not_runs (h : oscRuns c v = false) : oscVoice c v = v := by
  simp [oscVoice, h]

theorem oscSample_of_runs (h : oscRuns c v = true) :
    oscSample c v = scaleSample (rawSample c { v with phase := nextPhase c v }) (envPct v) := by
  simp [oscSample, h]

theorem oscSample_of_not_runs (h : oscRuns c v = false) : oscSample c v = 0 := by
  simp [oscSample, h]

theorem rawSample_of_none {v : Voice} (h : v.instr = none) : rawSample c v = 0 := by
  rw [rawSample, h]
theorem satInc32_toNat (a : BitVec 32) : (satInc32 a).toNat = min (a.toNat + 1) (2 ^ 32 - 1) := by
  rw [satInc32, BitVec.toNat_ofNat, Nat.mod_eq_of_lt (by omega)]

end

/-- Settles O41: the two branches of the pseudocode, the raw sample by the voice's instrument. -/
theorem oscillatorFormula : Obligations.OscillatorFormula := by
  intro c v
  unfold oscWritten
  split
  · rename_i h
    have hstill := (oscRuns_eq_false_iff c v).mpr h
    rw [oscVoice_of_not_runs c v hstill, oscSample_of_not_runs c v hstill]
  · rename_i h
    have hruns : oscRuns c v = true := by
      rw [← Bool.not_eq_false, oscRuns_eq_false_iff]
      exact h
    rw [oscVoice_of_runs c v hruns, oscSample_of_runs c v hruns, ← envelopeFormula v]
    refine Prod.ext rfl ?_
    cases hi : v.instr with
    | none =>
      simp only [rawSample]
      rfl
    | some k =>
      simp only [rawSample, instrSample, Bool.and_eq_true]
      rfl

/-- Settles O46: with no instrument the raw sample is 0. -/
theorem noInstrumentIsSilent : Obligations.NoInstrumentIsSilent := by
  intro c v hi
  have hruns : oscRuns c v = c.noInstrAdvances := by rw [oscRuns, hi, Option.isSome_none, Bool.false_or]
  refine ⟨?_, fun h => ?_, fun h => oscVoice_of_not_runs c v (hruns.trans h)⟩
  · cases h : oscRuns c v with
    | false => exact oscSample_of_not_runs c v h
    | true =>
      rw [oscSample_of_runs c v h, rawSample_of_none c (v := { v with phase := nextPhase c v }) hi]
      simp [scaleSample, tdiv]
  · rw [oscVoice_of_runs c v (hruns.trans h)]
    exact ⟨rfl, satInc32_toNat v.age⟩

/-! ### Advances in a row (R180) -/

section

variable (c : Config) (v : Voice)

/-- What an evaluation does not write. -/
theorem iterate_oscVoice_source (n : Nat) :
    ((oscVoice c)^[n] v).instr = v.instr ∧ phaseInc c ((oscVoice c)^[n] v) = phaseInc c v := by
  induction n with
  | zero => exact ⟨rfl, rfl⟩
  | succ n ih =>
    rw [Function.iterate_succ_apply']
    exact ih

theorem iterate_oscVoice_runs (n : Nat) : oscRuns c ((oscVoice c)^[n] v) = oscRuns c v := by
  rw [oscRuns, (iterate_oscVoice_source c v n).1, oscRuns]

/-- Every evaluation adds the increment in the ring. -/
theorem iterate_oscVoice_succ_phase (h : oscRuns c v = true) (n : Nat) :
    ((oscVoice c)^[n + 1] v).phase = (((oscVoice c)^[n] v).phase + phaseInc c v) % phaseMax c := by
  rw [Function.iterate_succ_apply', oscVoice_of_runs _ _ ((iterate_oscVoice_runs c v n).trans h), nextPhase,
    (iterate_oscVoice_source c v n).2]

/-- From the first evaluation on the phase is in its ring, whatever it was. -/
theorem iterate_oscVoice_phase_succ (h : oscRuns c v = true) (n : Nat) :
    ((oscVoice c)^[n + 1] v).phase = (v.phase + (n + 1) * phaseInc c v) % phaseMax c := by
  induction n with
  | zero => rw [iterate_oscVoice_succ_phase c v h, Function.iterate_zero_apply, Nat.one_mul]
  | succ n ih =>
    rw [iterate_oscVoice_succ_phase c v h, ih, Nat.mod_add_mod, Nat.add_assoc, ← Nat.succ_mul]

theorem iterate_oscVoice_phase (h : oscRuns c v = true) (hlt : v.phase < phaseMax c) (n : Nat) :
    ((oscVoice c)^[n] v).phase = (v.phase + n * phaseInc c v) % phaseMax c := by
  cases n with
  | zero => rw [Function.iterate_zero_apply, Nat.zero_mul, Nat.add_zero, Nat.mod_eq_of_lt hlt]
  | succ n => exact iterate_oscVoice_phase_succ c v h n

/-- The multiples of `inc` repeat modulo `P` with period `P / gcd(inc, P)`. -/
theorem mul_modEq_iff {P : Nat} (hP : 0 < P) (inc m n : Nat) :
    m * inc ≡ n * inc [MOD P] ↔ m ≡ n [MOD P / Nat.gcd inc P] := by
  rw [Nat.gcd_comm]
  refine ⟨Nat.ModEq.cancel_right_div_gcd hP, fun h => (h.mul_right' inc).of_dvd ?_⟩
  obtain ⟨k, hk⟩ := Nat.gcd_dvd_right P inc
  refine ⟨k, ?_⟩
  calc P / P.gcd inc * inc
      = P / P.gcd inc * (P.gcd inc * k) := by rw [← hk]
    _ = P * k := by rw [← Nat.mul_assoc, Nat.div_mul_cancel (Nat.gcd_dvd_left P inc)]

end

/-- Settles O42: the phases are equal when the increments added are, modulo `P`. -/
theorem phasePeriod : Obligations.PhasePeriod := by
  intro c v m n hruns hlt
  refine ⟨iterate_oscVoice_phase c v hruns hlt n, ?_⟩
  rw [iterate_oscVoice_phase c v hruns hlt m, iterate_oscVoice_phase c v hruns hlt n,
    ← mul_modEq_iff (phaseMax_pos c) (phaseInc c v) m n]
  exact ⟨Nat.ModEq.add_left_cancel' _, Nat.ModEq.add_left _⟩

/-- The raw sample is a function of the instrument and the phase. -/
theorem rawSample_congr (c : Config) {v u : Voice} (hi : v.instr = u.instr) (hp : v.phase = u.phase) :
    rawSample c v = rawSample c u := by
  rw [rawSample, hi, hp, rawSample]

/-- Settles O43: one period later the phase is the same. -/
theorem rawSamplesRepeat : Obligations.RawSamplesRepeat := by
  intro c v n hruns
  refine rawSample_congr c ?_ ?_
  · rw [(iterate_oscVoice_source c v _).1, (iterate_oscVoice_source c v _).1]
  · rw [Nat.add_right_comm, iterate_oscVoice_phase_succ c v hruns, iterate_oscVoice_phase_succ c v hruns]
    refine Nat.ModEq.add_left _ ((mul_modEq_iff (phaseMax_pos c) _ _ _).mpr ?_)
    rw [Nat.add_right_comm]
    exact Nat.add_modEq_right

/-! ### The sample and the mix (R177, 46_tick_loop.md R189, R190) -/

/-- What 20_memory.md R54 says of the tables. -/
theorem configAdmitted_samples {c : Config} (h : configAdmitted c = true) :
    c.sampleMin ≤ 0 ∧ 0 ≤ c.sampleMax ∧
      ∀ ins ∈ c.instruments, ∀ x ∈ ins.shape, c.sampleMin ≤ x ∧ x ≤ c.sampleMax := by
  simp only [configAdmitted, instrumentsAdmitted, Bool.and_eq_true, decide_eq_true_eq, List.all_eq_true] at h
  obtain ⟨⟨⟨⟨⟨-, hmin⟩, hmax⟩, -⟩, -, hshape⟩, -⟩ := h
  exact ⟨hmin, hmax, fun ins hins => (hshape ins hins).2⟩

/-- So every entry read is in range: what is not there reads as 0. -/
theorem instrRead_in_range {c : Config} (h : configAdmitted c = true) (k : Byte) (j : Nat) :
    c.sampleMin ≤ instrRead c k j ∧ instrRead c k j ≤ c.sampleMax := by
  obtain ⟨hmin, hmax, hall⟩ := configAdmitted_samples h
  rw [instrRead, instrument, List.getD_eq_getElem?_getD, List.getD_eq_getElem?_getD]
  cases hins : c.instruments[k.toNat]? with
  | none => exact ⟨hmin, hmax⟩
  | some ins =>
    cases hx : ins.shape[j]? with
    | none =>
      rw [Option.getD_some, hx]
      exact ⟨hmin, hmax⟩
    | some x =>
      rw [Option.getD_some, hx]
      exact hall ins (List.mem_of_getElem? hins) x (List.mem_of_getElem? hx)

theorem rawSample_in_range {c : Config} (h : configAdmitted c = true) (v : Voice) :
    c.sampleMin ≤ rawSample c v ∧ rawSample c v ≤ c.sampleMax := by
  obtain ⟨hmin, hmax, -⟩ := configAdmitted_samples h
  unfold rawSample
  split
  · exact ⟨hmin, hmax⟩
  · rename_i k _
    unfold instrSample
    split
    · obtain ⟨hlo, hhi⟩ := interpSample_between c k v.phase
      exact ⟨(le_min (instrRead_in_range h k _).1 (instrRead_in_range h k _).1).trans hlo,
        hhi.trans (max_le (instrRead_in_range h k _).2 (instrRead_in_range h k _).2)⟩
    · exact instrRead_in_range h k _

/-- Settles O47: the envelope takes a part of a raw sample in range, and 0 is in range. -/
theorem sampleInRange : Obligations.SampleInRange := by
  intro c v h hatk hsus _
  obtain ⟨hmin, hmax, -⟩ := configAdmitted_samples h
  cases hruns : oscRuns c v with
  | false =>
    rw [oscSample_of_not_runs c v hruns]
    exact ⟨hmin, hmax⟩
  | true =>
    rw [oscSample_of_runs c v hruns, scaleSample]
    have hraw := rawSample_in_range h { v with phase := nextPhase c v }
    have hpart := tdiv_part_between (rawSample c { v with phase := nextPhase c v })
      ((envelopeInRange v).2 hatk hsus)
    omega

/-- Settles O48: by the three regions of the clamp. -/
theorem mixedOutputClamped : Obligations.MixedOutputClamped := by
  intro c s0 s1 h
  unfold mix clamp
  omega

end Sys2Proof.Machine
end

section
/-! PROOFS. Reset, `loadSong` and the consumer (70_reset_and_hazards.md R231 to R233, 46_tick_loop.md R193). -/

namespace Sys2Proof.Machine

/-- Settles O49: both voices are `Voice.construct`. -/
theorem constructionReset : Obligations.ConstructionReset := by
  intro c
  refine ⟨fun v => ?_, rfl, rfl, rfl, rfl, rfl, rfl, rfl, rfl⟩
  have hvoice : (State.construct c).voice v = Voice.construct c := by cases v <;> rfl
  rw [hvoice]
  exact ⟨rfl, rfl, rfl, rfl, rfl, rfl, rfl, rfl, rfl, rfl, rfl, rfl, rfl, rfl⟩

/-- Settles O50: the construction of an admitted configuration is not refused. -/
theorem constructEvent : Obligations.ConstructEvent := by
  intro s rest hs hc
  rw [step_of_construct hs, if_pos hc]

/-- Settles O51: each voice is restarted, from its construction values under the full reset. -/
theorem loadSongResult : Obligations.LoadSongResult := by
  intro s rest m sp hs hc hm
  rw [step_of_loadSong hs, if_pos hc, if_pos hm, State.popped_of_cons hs]
  refine ⟨fun hfull => ?_, fun hpart => ?_⟩
  · simp only [State.load, loadVoice, hfull, if_true]
    rfl
  · simp only [State.load, loadVoice, hpart, Bool.false_eq_true, if_false]
    rfl

/-- Settles O52: the event is `clearReady`. -/
theorem consumerClearsReady : Obligations.ConsumerClearsReady := by
  intro s rest hs
  rw [step_of_consume hs, State.popped_of_cons hs]
  rfl

end Sys2Proof.Machine
end

section
/-! PROOFS. The invariant (10_state.md R21; 20_memory.md R52, R54): every operation of a step keeps it, first for a
voice, then for the state. -/

namespace Sys2Proof.Machine

open Sys2Proof.Claims

/-! ### A voice -/

namespace Voice.Ok

section

variable {c : Config} {m : Memory} {loaded : Bool} {v : Voice}

theorem construct (c : Config) (m : Memory) : (Voice.construct c).Ok c m false where
  phase_lt := Nat.two_pow_pos _
  instr_lt := fun _ h => nomatch h
  levels_le := fun _ => ⟨Nat.zero_le _, Nat.zero_le _⟩
  countdown_le := Nat.zero_le _
  times_lt := fun _ => ⟨Nat.two_pow_pos _, Nat.two_pow_pos _⟩
  mark_zero := fun _ => rfl
  mark_compat := fun _ h => Bool.noConfusion h
  mark_le := Nat.zero_le _
  pc_in := fun h => Bool.noConfusion h

/-- `loadSong` starts a voice at word 0 of a pattern that exists (70_reset_and_hazards.md R233). -/
theorem restartVoice {m' : Memory} {start : Byte} (h : v.Ok c m loaded) (hstart : start.toNat < m'.nPat) :
    (Machine.restartVoice start v).Ok c m' true where
  phase_lt := Nat.two_pow_pos _
  instr_lt := h.instr_lt
  levels_le := h.levels_le
  countdown_le := Nat.zero_le _
  times_lt := h.times_lt
  mark_zero := fun _ => rfl
  mark_compat := fun _ h => Bool.noConfusion h
  mark_le := Nat.zero_le _
  pc_in := fun _ => ⟨hstart, Nat.zero_le _⟩

theorem loadVoice {m' : Memory} {start : Byte} (h : v.Ok c m loaded) (hstart : start.toNat < m'.nPat) :
    (Machine.loadVoice c start v).Ok c m' true := by
  unfold Machine.loadVoice
  split
  · exact (construct c m).restartVoice hstart
  · exact h.restartVoice hstart

/-- The cursor of a voice with a word to fetch goes at most to its pattern's end (10_state.md R38). -/
theorem advanced (h : v.Ok c m loaded) (hm : m.wf = true) (hcur : v.cur.toNat < m.patLen v.pat.toNat) :
    v.advanced.Ok c m loaded :=
  { h with
    pc_in := fun hl => by
      have hlen := Memory.patLen_le_of_wf hm v.pat.toNat
      have hlt : v.cur.toNat + 1 < 2 ^ 16 := by omega
      have hnext : (v.cur + 1).toNat = v.cur.toNat + 1 := (BitVec.toNat_add _ _).trans (Nat.mod_eq_of_lt hlt)
      refine ⟨(h.pc_in hl).1, ?_⟩
      change (v.cur + 1).toNat ≤ m.patLen v.pat.toNat
      omega }

theorem withCountdown {n : BitVec 32} (h : v.Ok c m loaded) (hn : n.toNat ≤ 130050) :
    ({ v with countdown := n } : Voice).Ok c m loaded :=
  { h with countdown_le := hn }

/-- Note-on: the marker is the pause ticks, and the voice is released exactly when there are any (41_note.md R111). -/
theorem noteOn (h : v.Ok c m loaded) (n : BitVec 7) (pt : Byte) : (Machine.noteOn c n pt v).Ok c m loaded :=
  have hmark : (Machine.noteOn c n pt v).relMark.toNat = pt.toNat := by
    rw [Machine.noteOn, BitVec.toNat_setWidth]
    omega
  { h with
    mark_zero := fun hrel => by
      have hpt : pt = 0 := by simpa [Machine.noteOn, releasedByNoteOn] using hrel
      rw [hpt]
      rfl
    mark_compat := fun _ hrel hzero => by
      have hpt : pt ≠ 0 := by simpa [Machine.noteOn, releasedByNoteOn] using hrel
      rw [hzero] at hmark
      exact hpt (BitVec.eq_of_toNat_eq hmark.symm)
    mark_le := by
      rw [hmark]
      exact le_max_of_le_right (Nat.le_of_lt_succ pt.isLt) }

/-- Note-off: the marker is the age (41_note.md R112). -/
theorem noteOff (h : v.Ok c m loaded) : (Machine.noteOff c v).Ok c m loaded :=
  { h with
    mark_zero := fun hrel => by
      simp only [Machine.noteOff, releasedByNoteOff] at hrel
      split at hrel
      · change v.age = 0
        simpa using hrel
      · exact Bool.noConfusion hrel
    mark_compat := fun hc hrel => by
      simpa [Machine.noteOff, releasedByNoteOff, hc] using hrel
    mark_le := le_max_left _ _ }

theorem noteVoice (h : v.Ok c m loaded) (speed : Byte) (d p : DurCode) (n : BitVec 7) :
    (Machine.noteVoice c speed d p n v).Ok c m loaded := by
  have hcount : (noteCountdown (durTicks v p) (durTicks v d) speed).toNat ≤ 130050 := by
    rw [noteCountdown_toNat]
    exact noteTicks_le _ _ _
  unfold Machine.noteVoice
  split
  · exact h.noteOff.withCountdown hcount
  · exact (h.noteOn n _).withCountdown hcount

theorem storedLevel_le (hc : c.levelClamp = true) (l : Byte) : (storedLevel c l).toNat ≤ 100 := by
  rw [storedLevel, if_pos hc, BitVec.toNat_ofNat]
  omega

theorem time_lt (hc : msScaleAdmitted c = true) (k : Imm12) : (BitVec.ofNat 32 (msToSamples c k)).toNat < 2 ^ 31 := by
  rw [ofNat_msToSamples_toNat hc]
  exact msToSamples_lt hc k

/-- Every word keeps its voice's clauses (10_state.md R49). -/
theorem wordVoice (h : v.Ok c m loaded) (hm : m.wf = true) (hcur : v.cur.toNat < m.patLen v.pat.toNat) (speed : Byte)
    (i : Instr) : (Machine.wordVoice c m.nPat speed v i).Ok c m loaded := by
  have hadv := h.advanced hm hcur
  have hrsv : ∀ w, (reservedVoice c speed w v).Ok c m loaded := fun w => by
    unfold reservedVoice
    split
    · exact h
    · exact hadv.noteVoice speed _ _ _
  cases i with
  | note d p n => exact hadv.noteVoice speed d p n
  | rest d p => exact hadv.noteVoice speed d p 0
  | rsvNote b14 d b10 p n => exact hrsv _
  | effectInvalid e a => exact hadv
  | pause t => exact hadv.withCountdown (by rw [pauseCountdown_toNat]; exact (byte_mul_le t speed).trans (by decide))
  | jump p =>
    simp only [Machine.wordVoice]
    split
    · exact { h with pc_in := fun _ => ⟨‹_›, Nat.zero_le _⟩ }
    · exact hadv
  | instr k =>
    refine { hadv with instr_lt := fun j hj => ?_ }
    simp only [Machine.wordVoice] at hj
    split at hj
    · cases hj
      assumption
    · exact h.instr_lt j hj
  | alevel l => exact { hadv with levels_le := fun hc => ⟨storedLevel_le hc l, (h.levels_le hc).2⟩ }
  | slevel l => exact { hadv with levels_le := fun hc => ⟨(h.levels_le hc).1, storedLevel_le hc l⟩ }
  | speed n => exact hadv
  | tick j x => exact { hadv with }
  | attack k => exact { hadv with times_lt := fun hc => ⟨time_lt hc k, (h.times_lt hc).2⟩ }
  | decay k => exact { hadv with }
  | release k => exact { hadv with times_lt := fun hc => ⟨(h.times_lt hc).1, time_lt hc k⟩ }
  | rsvD x => exact hrsv _
  | rsvE x => exact hrsv _
  | rsvF x => exact hrsv _

theorem decremented (h : v.Ok c m loaded) :
    ({ v with countdown := if v.countdown = 0 then 0 else v.countdown - 1 } : Voice).Ok c m loaded := by
  refine h.withCountdown ?_
  split
  · exact Nat.zero_le _
  · have := h.countdown_le
    rw [sub_one_toNat ‹_›]
    omega

/-- An evaluation keeps the phase in its ring, and the age does not fall. -/
theorem oscVoice (h : v.Ok c m loaded) : (Machine.oscVoice c v).Ok c m loaded := by
  cases hruns : oscRuns c v with
  | false => rwa [oscVoice_of_not_runs c v hruns]
  | true =>
    rw [oscVoice_of_runs c v hruns]
    refine { h with phase_lt := nextPhase_lt c v, mark_le := ?_ }
    have hmark := h.mark_le
    have hage := satInc32_toNat v.age
    dsimp only
    omega

end

end Voice.Ok

/-! ### The state -/

namespace State.Inv

section

variable {s : State}

theorem voice_ok (h : s.Inv) (v : VoiceIdx) : (s.voice v).Ok s.cfg s.mem s.songLoaded := by
  cases v
  · exact h.voice0_ok
  · exact h.voice1_ok

theorem setVoice (h : s.Inv) (v : VoiceIdx) {x : Voice} (hx : x.Ok s.cfg s.mem s.songLoaded) :
    (s.setVoice v x).Inv := by
  cases v
  · exact { h with voice0_ok := hx }
  · exact { h with voice1_ok := hx }

theorem raiseFault (h : s.Inv) (k : Fault) : (s.raiseFault k).Inv := { h with }

theorem popped (h : s.Inv) : s.popped.Inv := { h with }

theorem clearReady (h : s.Inv) : s.clearReady.Inv := { h with out_range := fun _ hr => Bool.noConfusion hr }

theorem afterWord (h : s.Inv) {v : VoiceIdx} {w : Word} (hw : s.fetch v = some w) : (s.afterWord v (decode w)).Inv :=
  { h.setVoice v ((h.voice_ok v).wordVoice h.mem_wf (Memory.patRead_lt hw) s.speed (decode w)) with }

theorem decrement (h : s.Inv) (v : VoiceIdx) : (s.decrement v).Inv := h.setVoice v (h.voice_ok v).decremented

theorem afterPhase (h : s.Inv) (v : VoiceIdx) : (s.afterPhase v).Inv :=
  State.afterPhase_induct h (fun _ => h.raiseFault _) (fun _ => h.afterWord) fun _ ht => ht.decrement v

/-- The mixed output is clamped into its range (46_tick_loop.md R190). -/
theorem synthesize (h : s.Inv) : s.synthesize.Inv :=
  { h with
    voice0_ok := h.voice0_ok.oscVoice
    voice1_ok := h.voice1_ok.oscVoice
    out_range := fun hle _ => by
      obtain ⟨hlo, hhi, -⟩ := mixedOutputClamped s.cfg (oscSample s.cfg s.voice0) (oscSample s.cfg s.voice1) hle
      exact ⟨hlo, hhi⟩ }

theorem afterInvocation (h : s.Inv) : s.afterInvocation.Inv :=
  State.afterInvocation_induct (h.afterPhase .v0) (fun _ ht => ht.afterPhase .v1) fun _ ht => ht.synthesize

/-- An admitted song keeps the bounds and holds no reserved word under `Refuse` (20_memory.md R52). -/
theorem load (h : s.Inv) {m : Memory} {sp : StartPattern} (hm : songAdmitted s.cfg m sp = true) :
    (s.load m sp).Inv := by
  obtain ⟨hpos, h0, h1⟩ := songAdmitted_bounds hm
  exact { h with
    voice0_ok := h.voice0_ok.loadVoice h0
    voice1_ok := h.voice1_ok.loadVoice h1
    mem_wf := songAdmitted_wf hm
    song_nonempty := fun _ => hpos
    song_admitted := fun _ hp _ _ _ hw => songAdmitted_words hm hp hw }

end

theorem construct {c : Config} (hc : configAdmitted c = true) (l : List Event) :
    ({ State.construct c with schedule := l } : State).Inv where
  voice0_ok := Voice.Ok.construct c _
  voice1_ok := Voice.Ok.construct c _
  config_ok := hc
  mem_wf := Memory.empty_wf
  song_nonempty := fun h => Bool.noConfusion h
  song_admitted := fun h => Bool.noConfusion h
  out_range := fun _ h => Bool.noConfusion h

end State.Inv

/-- Settles O53: the configuration of reset is admitted. -/
theorem invariantAtReset : Obligations.InvariantAtReset := State.Inv.construct shipped_admitted []

/-- Settles O54: each kind of step keeps the invariant. -/
theorem stepKeepsInvariant : Obligations.StepKeepsInvariant := by
  intro s t hs h
  cases step_cases h with
  | skip => exact hs.popped
  | noSong => exact hs.popped.raiseFault _
  | run => exact hs.popped.afterInvocation
  | consume => exact hs.popped.clearReady
  | load m sp _ _ hsong => exact hs.popped.load hsong
  | construct _ hc => exact .construct hc _

/-! ### No reserved word is reached (20_memory.md R52, 40_sequencer_step.md R104) -/

/-- A started block whose song is admitted and which has not met a reserved word. -/
def NoReserved (s : State) : Prop := s.Inv ∧ s.songLoaded = true ∧ s.faultKind ≠ some .reservedWord

/-- Under `Refuse` the word fetched is not reserved, and under `AsNote` no word faults. -/
theorem wordFault_of_fetch {s : State} (h : s.Inv) (hl : s.songLoaded = true) {v : VoiceIdx} {w : Word}
    (hw : s.fetch v = some w) : wordFault s.cfg s.faultKind (decode w) = s.faultKind := by
  refine if_neg fun ⟨hrsv, hp⟩ => ?_
  have hfree : isReservedWord w = false := h.song_admitted hl hp _ _ w hw
  exact absurd hrsv (Bool.eq_false_iff.mp hfree)

theorem NoReserved.afterPhase {s : State} (h : NoReserved s) (v : VoiceIdx) : NoReserved (s.afterPhase v) := by
  obtain ⟨hinv, hl, hf⟩ := h
  refine State.afterPhase_induct ⟨hinv, hl, hf⟩ (fun _ => ⟨hinv.raiseFault _, hl, ?_⟩)
    (fun w hw => ⟨hinv.afterWord hw, hl, ?_⟩) fun t ⟨htinv, htl, htf⟩ => ⟨htinv.decrement v, htl, htf⟩
  · rw [State.raiseFault_faultKind]
    cases hk : s.faultKind with
    | none => simp
    | some k => rwa [hk] at hf
  · rwa [State.afterWord_faultKind, wordFault_of_fetch hinv hl hw]

/-- Settles O55: only an executed invocation runs words, and no phase of it meets a reserved one. -/
theorem admittedSongNeverReserved : Obligations.AdmittedSongNeverReserved := by
  intro s t hs hf h
  have hnone : s.faultKind ≠ some .reservedWord := by simp [hf]
  cases step_cases h with
  | skip => exact hnone
  | noSong => simp [hf]
  | run _ hruns =>
    obtain ⟨-, hl, -⟩ := hruns
    have hpop : NoReserved s.popped := ⟨hs.popped, hl, hnone⟩
    obtain ⟨-, -, hfree⟩ := State.afterInvocation_induct (P := NoReserved) (hpop.afterPhase .v0)
      (fun _ ht => ht.afterPhase .v1) fun _ ⟨hinv, htl, htf⟩ => ⟨hinv.synthesize, htl, htf⟩
    exact hfree
  | consume => exact hnone
  | load => exact hnone
  | construct => exact nofun

end Sys2Proof.Machine
end
